-- ==== Sys2Proof/Word.lean ====
section
/-! DEFINITION. The words the core moves (spec 00 R9, 20 R62): every DATA and RDATA word is 64 bits, and a
binary64 value is held as its 64-bit pattern. -/

namespace Sys2Proof

/-- One 64-bit word of the DATA or RDATA port (R62). -/
abbrev Word := BitVec 64

/-- An IEEE 754 binary64 value, held as its 64-bit pattern (R9, R62). -/
abbrev F64 := BitVec 64

/-- A 64-bit unsigned integer, `u64` of the spec (R9). -/
abbrev U64 := BitVec 64

/-- An 8-bit unsigned integer, `u8` of the spec (R9). -/
abbrev U8 := BitVec 8

/-- A command word, what the CMD port carries (R61, R80). -/
abbrev CmdWord := BitVec 32

end Sys2Proof
end

