-- ==== Sys2Proof/Syntax.lean ====
section
/-! DEFINITION. The eleven commands of the opcode map (spec 30 R82), one constructor each, with the operands the
command reads. DATA stands in a constructor only where the command reads it (R81). -/

namespace Sys2Proof

/-- The timestamp operand of PROC (R81, R86, R163): `wall` is TSV = 0, `PROC WALL`, which ignores DATA; `given t` is
TSV = 1, whose DATA word is the timestamp t. -/
inductive Stamp
  | wall
  | given (t : F64)
  deriving DecidableEq, Repr

/-- The commands of R82. A selector is the raw 8-bit SEL field and an index the raw 16-bit IDX field: one outside its
space decodes, and the command then raises ERR_BAD_SELECT (R83). -/
inductive Instr
  /-- NOP (R100). -/
  | nop
  /-- CFGW: write DATA to configuration register SEL (R101). -/
  | cfgw (sel : BitVec 8) (value : Word)
  /-- CFGR: read configuration register SEL (R103). -/
  | cfgr (sel : BitVec 8)
  /-- INIT: construct a detector instance (R105). -/
  | init
  /-- SRST: end the instance (R109). -/
  | srst
  /-- PUSH: append the sample DATA to the input buffer (R120). -/
  | push (sample : F64)
  /-- PROC: process the chunk in the input buffer (R160). -/
  | proc (stamp : Stamp)
  /-- ANLZ: run the Spectral Frontend alone (R140). -/
  | anlz
  /-- REGR: read the status space at SEL (R220). -/
  | regr (sel : BitVec 8)
  /-- WINR: read field SEL of window IDX (R222). -/
  | winr (sel : BitVec 8) (idx : BitVec 16)
  /-- EVTR: read event register SEL (R224). -/
  | evtr (sel : BitVec 8)
  deriving DecidableEq, Repr

end Sys2Proof
end

