-- ==== Sys2Proof/Decode.lean ====
section
/-! DEFINITION. Decoding a command word and its operand word, and encoding a command (spec 30 R80 to R85), from the
opcode map of R82. -/

namespace Sys2Proof

/-- The opcodes of R82, by mnemonic. -/
inductive Opcode
  | nop | cfgw | cfgr | init | srst | push | proc | anlz | regr | winr | evtr
  deriving DecidableEq, Repr

/-- One row of the opcode map (R82): the words w with w AND mask = pattern are this command's. -/
structure OpcodeRow where
  opcode : Opcode
  pattern : CmdWord
  mask : CmdWord
  deriving DecidableEq, Repr

/-- The opcode map, row by row as R82 prints it. -/
def opcodeMap : List OpcodeRow :=
  [ ⟨.nop,  0x00000000#32, 0xFFFFFFFF#32⟩,
    ⟨.cfgw, 0x01000000#32, 0xFF00FFFF#32⟩,
    ⟨.cfgr, 0x02000000#32, 0xFF00FFFF#32⟩,
    ⟨.init, 0x03000000#32, 0xFFFFFFFF#32⟩,
    ⟨.srst, 0x04000000#32, 0xFFFFFFFF#32⟩,
    ⟨.push, 0x10000000#32, 0xFFFFFFFF#32⟩,
    ⟨.proc, 0x11000000#32, 0xFFFEFFFF#32⟩,
    ⟨.anlz, 0x12000000#32, 0xFFFFFFFF#32⟩,
    ⟨.regr, 0x20000000#32, 0xFF00FFFF#32⟩,
    ⟨.winr, 0x21000000#32, 0xFF000000#32⟩,
    ⟨.evtr, 0x22000000#32, 0xFF00FFFF#32⟩ ]

/-- The word selects the row (R83). -/
def OpcodeRow.selects (r : OpcodeRow) (w : CmdWord) : Bool := w &&& r.mask == r.pattern

/-- OP, bits [31:24] (R80). -/
def fieldOp (w : CmdWord) : BitVec 8 := w.extractLsb' 24 8

/-- SEL, bits [23:16] (R80, R81): an 8-bit unsigned integer. -/
def fieldSel (w : CmdWord) : BitVec 8 := w.extractLsb' 16 8

/-- IDX, bits [15:0] (R80, R81): a 16-bit unsigned integer. -/
def fieldIdx (w : CmdWord) : BitVec 16 := w.extractLsb' 0 16

/-- TSV, SEL bit 0 of PROC (R81). -/
def fieldTsv (w : CmdWord) : Bool := w.getLsbD 16

/-- Why a command word is illegal (R84 items 1 and 2). Either way the command raises ERR_ILLEGAL. -/
inductive Illegal
  /-- OP is none of the eleven listed values. -/
  | reservedOpcode (op : BitVec 8)
  /-- OP is listed, and a field that must be 0 is not. -/
  | mustBeZero (op : BitVec 8)
  deriving DecidableEq, Repr

/-- The rule a word that matches no row breaks. -/
def illegalWord (w : CmdWord) : Illegal :=
  if opcodeMap.any (fun r => fieldOp r.pattern == fieldOp w) then .mustBeZero (fieldOp w)
  else .reservedOpcode (fieldOp w)

/-- Operand assembly (R81): the command of an opcode, from the word's fields and DATA. -/
def assembleOperands (o : Opcode) (w : CmdWord) (data : Word) : Instr :=
  match o with
  | .nop => .nop
  | .cfgw => .cfgw (fieldSel w) data
  | .cfgr => .cfgr (fieldSel w)
  | .init => .init
  | .srst => .srst
  | .push => .push data
  | .proc => .proc (if fieldTsv w then .given data else .wall)
  | .anlz => .anlz
  | .regr => .regr (fieldSel w)
  | .winr => .winr (fieldSel w) (fieldIdx w)
  | .evtr => .evtr (fieldSel w)

/-- Decoding (R83): the command of the row the word selects, or the reason it is illegal. DATA is never a source of
illegality (R84 item 5). -/
def decode (w : CmdWord) (data : Word) : Except Illegal Instr :=
  match opcodeMap.find? (·.selects w) with
  | some r => .ok (assembleOperands r.opcode w data)
  | none => .error (illegalWord w)

/-- A command word from its three fields (R80). -/
def commandWord (op : BitVec 8) (sel : BitVec 8) (idx : BitVec 16) : CmdWord := op ++ sel ++ idx

/-- Encoding (R82, R86): the command word and the DATA word of a command. DATA is 0 where the command ignores it
(R86, last sentence). -/
def encode : Instr → CmdWord × Word
  | .nop => (commandWord 0x00#8 0#8 0#16, 0#64)
  | .cfgw sel v => (commandWord 0x01#8 sel 0#16, v)
  | .cfgr sel => (commandWord 0x02#8 sel 0#16, 0#64)
  | .init => (commandWord 0x03#8 0#8 0#16, 0#64)
  | .srst => (commandWord 0x04#8 0#8 0#16, 0#64)
  | .push x => (commandWord 0x10#8 0#8 0#16, x)
  | .proc .wall => (commandWord 0x11#8 0#8 0#16, 0#64)
  | .proc (.given t) => (commandWord 0x11#8 1#8 0#16, t)
  | .anlz => (commandWord 0x12#8 0#8 0#16, 0#64)
  | .regr sel => (commandWord 0x20#8 sel 0#16, 0#64)
  | .winr sel idx => (commandWord 0x21#8 sel idx, 0#64)
  | .evtr sel => (commandWord 0x22#8 sel 0#16, 0#64)

/-- The command word of an instruction given as one number: bits 31..0, those at or above nbits being 0. -/
def tableCmd (nbits w : Nat) : CmdWord := BitVec.ofNat 32 (w % 2 ^ nbits)

/-- The DATA word of an instruction given as one number: bits 95..32, those at or above nbits being 0. -/
def tableData (nbits w : Nat) : Word := BitVec.ofNat 64 ((w % 2 ^ nbits) >>> 32)

/-- The instruction the decoder reads from an instruction given as one number, the command word in bits 31..0 and
DATA above it (assumption 14). -/
def decodeTableWord (nbits w : Nat) : Option Instr :=
  match decode (tableCmd nbits w) (tableData nbits w) with
  | .ok i => some i
  | .error _ => none

end Sys2Proof
end

