-- ==== Sys2Proof/Config.lean ====
section
/-! DEFINITION. What an implementation of the core fixes, and the values the spec leaves open (spec 00 R7,
93 section 1). A constant declared `opaque` has no value that Lean can see: a claim holds whatever it is. -/

namespace Sys2Proof

/-- The two Hann windows an implementation may use (R131, D6). SYMMETRIC is the spec's default. -/
inductive HannVariant
  | symmetric
  | periodic
  deriving DecidableEq, Repr, Inhabited

/-- The binary64 operations whose result can be a NaN: the index of a free NaN pattern. -/
inductive FOp
  | add
  | sub
  | mul
  | div
  | sqrt
  deriving DecidableEq, Repr, Inhabited

/-- Where an arithmetic operation stands. `pure` is a computation the spec calls a pure function of its inputs (the
frontend, R138 and R141; the sustained analysis, R199): the same operation on the same operands gives the same NaN
there. `draw n` is the detector's own arithmetic in the n-th PROC that does some: nothing relates two of them. -/
inductive NanSite
  | pure
  | draw (n : Nat)
  deriving DecidableEq, Repr, Inhabited

namespace Config

/-- HANN_VARIANT (R7, R131): free, one of the two windows. It only selects among the free SPECMAG functions. -/
opaque hannVariant : HannVariant

/-- What SPECMAG is made from (R132, R139): free. `specmagRaw v x k` is the magnitude of bin k of the samples x under
the window v. `Sys2Proof.specmag` holds it to the properties R132 requires. -/
opaque specmagRaw : HannVariant → List F64 → Nat → F64

/-- What CHUNK_MAX is made from (R7, D22): a free natural number. -/
opaque chunkMaxSeed : Nat

/-- How far CHUNK_MAX lies above 4096: any value from 0 to 2^32 - 1 - 4096. -/
def chunkMaxExtra : Nat := chunkMaxSeed % (2 ^ 32 - 4096)

/-- CHUNK_MAX (R7, R106): an integer at least 4096 and at most 2^32 - 1, otherwise free. -/
def chunkMax : Nat := 4096 + chunkMaxExtra

/-- The WALLCLK input (R163, R255): free. `wallclk n` is the value of the n-th draw; no law relates two draws. -/
opaque wallclk : Nat → F64

/-- The bit pattern of a NaN that an operation produces (93 I7): free. `F64.nan` makes it a NaN pattern, if it is
none, and every NaN pattern can arise. -/
opaque nanBits : NanSite → FOp → F64 → F64 → F64

/-- WIN_CAP (R7, R34): the capacity of the ring buffer. -/
def winCap : Nat := 100

/-- IDENT (R42): the read-only identification register. -/
def ident : Word := 0x5344440000070001#64

end Config

end Sys2Proof
end

