-- ==== Sys2Proof/Machine/Float.lean ====
section
/-! DEFINITION. IEEE 754 binary64 arithmetic on bit patterns (spec 00 R10, R12; 20 R62), exact in natural numbers and
then rounded once. A finite value is counted in units of 2^-1074, the least subnormal, so every finite value is a sign
and a natural number of units (assumption 11). -/

namespace Sys2Proof

/-- Bit 63, the sign (R62). -/
def F64.sign (a : F64) : Bool := a.getLsbD 63

/-- Bits [62:52], the biased exponent (R62). -/
def F64.expField (a : F64) : Nat := (a.toNat >>> 52) % 2 ^ 11

/-- Bits [51:0], the fraction (R62). -/
def F64.frac (a : F64) : Nat := a.toNat % 2 ^ 52

/-- Bits [62:0]: the pattern without its sign. Larger magnitudes have larger numbers here. -/
def F64.magBits (a : F64) : Nat := a.toNat % 2 ^ 63

/-- `isNaN` of R11. -/
def F64.isNaN (a : F64) : Bool := a.expField == 2047 && a.frac != 0

/-- An infinity of either sign. -/
def F64.isInf (a : F64) : Bool := a.expField == 2047 && a.frac == 0

/-- `isFinite` of R11: neither a NaN nor an infinity. -/
def F64.isFinite (a : F64) : Bool := a.expField != 2047

/-- A zero of either sign. -/
def F64.isZero (a : F64) : Bool := a.magBits == 0

/-- The magnitude of a finite value in units of 2^-1074. -/
def F64.units (a : F64) : Nat :=
  if a.expField = 0 then a.frac else (2 ^ 52 + a.frac) <<< (a.expField - 1)

/-- A finite value in units of 2^-1074, with its sign. -/
def F64.signedUnits (a : F64) : Int := if a.sign then -(a.units : Int) else a.units

/-- The pattern with this sign and these lower 63 bits. -/
def F64.pack (neg : Bool) (m : Nat) : F64 := BitVec.ofNat 64 ((if neg then 2 ^ 63 else 0) + m)

/-- A zero. -/
def F64.zero (neg : Bool) : F64 := F64.pack neg 0

/-- The lower 63 bits of an infinity. -/
def F64.infBits : Nat := 2047 <<< 52

/-- An infinity. -/
def F64.inf (neg : Bool) : F64 := F64.pack neg F64.infBits

/-- The lower 63 bits of num / den units rounded to nearest, ties to even, with no bound on the exponent: `e` counts
the bits the quotient has beyond 53, `m` is the quotient at that spacing, and adding the rounded quotient to the
exponent's place carries into the exponent by itself. -/
def F64.roundMag (num den : Nat) : Nat :=
  let e := (num / den).log2 - 52
  let d := den <<< e
  let m := num / d
  let r := num % d
  (e <<< 52) + (if d < 2 * r || (2 * r == d && m % 2 == 1) then m + 1 else m)

/-- num / den units, with a sign, rounded to binary64 with round-to-nearest-ties-to-even (R10); too large a magnitude
gives the infinity. -/
def F64.round (neg : Bool) (num den : Nat) : F64 := F64.pack neg (min F64.infBits (F64.roundMag num den))

/-- The NaN an operation produces (93 I7): the free pattern where that is a NaN, and a NaN made from it where not. -/
def F64.nan (site : NanSite) (op : FOp) (a b : F64) : F64 :=
  let v := Config.nanBits site op a b
  if v.isNaN then v else v ||| 0x7FF8000000000000#64

/-- The value with its sign flipped. -/
def F64.neg (a : F64) : F64 := a ^^^ 0x8000000000000000#64

/-- The sum of two values, `nan` where the sum is a NaN. An exact zero sum of opposite signs is +0.0. -/
def F64.addOr (nan a b : F64) : F64 :=
  if a.isNaN || b.isNaN then nan
  else if a.isInf then (if b.isInf && (a.sign != b.sign) then nan else a)
  else if b.isInf then b
  else
    let z := a.signedUnits + b.signedUnits
    if z = 0 then F64.zero (a.sign && b.sign) else F64.round (decide (z < 0)) z.natAbs 1

/-- `+` on f64 (R10). -/
def F64.add (site : NanSite) (a b : F64) : F64 := F64.addOr (F64.nan site .add a b) a b

/-- `−` on f64 (R10). -/
def F64.sub (site : NanSite) (a b : F64) : F64 := F64.addOr (F64.nan site .sub a b) a b.neg

/-- `×` on f64 (R10). -/
def F64.mul (site : NanSite) (a b : F64) : F64 :=
  if a.isNaN || b.isNaN || (a.isInf && b.isZero) || (a.isZero && b.isInf) then F64.nan site .mul a b
  else if a.isInf || b.isInf then F64.inf (a.sign != b.sign)
  else F64.round (a.sign != b.sign) (a.units * b.units) (2 ^ 1074)

/-- `÷` on f64 (R10): division of a non-zero finite value by a zero gives an infinity. -/
def F64.div (site : NanSite) (a b : F64) : F64 :=
  if a.isNaN || b.isNaN || (a.isInf && b.isInf) || (a.isZero && b.isZero) then F64.nan site .div a b
  else if a.isInf || b.isZero then F64.inf (a.sign != b.sign)
  else if b.isInf then F64.zero (a.sign != b.sign)
  else F64.round (a.sign != b.sign) (a.units <<< 1074) b.units

/-- The integer square root of n, given that it is below 2^bits beyond `root`: one bit a step, from the top. -/
def natSqrtFrom (n : Nat) : Nat → Nat → Nat
  | 0, root => root
  | k + 1, root =>
    if (root + 2 ^ k) * (root + 2 ^ k) ≤ n then natSqrtFrom n k (root + 2 ^ k) else natSqrtFrom n k root

/-- How many bit pairs the square root below drops from s: what remains has at most 130 bits. -/
def sqrtDrop (s : Nat) : Nat := (s.log2 - 128) / 2

/-- The square root of a finite positive value in half units, to 64 or more significant bits below the rounding
position, the last one set when the root is not exact: enough for a correct rounding. -/
def F64.sqrtHalfUnits (a : F64) : Nat :=
  let s := a.units <<< 1074
  let k := sqrtDrop s
  let root := (natSqrtFrom (s >>> (2 * k)) 66 0) <<< k
  2 * root + (if root * root = s then 0 else 1)

/-- `sqrt` on f64 (R10, R195): the IEEE correctly rounded square root. -/
def F64.sqrt (site : NanSite) (a : F64) : F64 :=
  if a.isNaN then F64.nan site .sqrt a a
  else if a.isZero then a
  else if a.sign then F64.nan site .sqrt a a
  else if a.isInf then a
  else F64.round false a.sqrtHalfUnits 2

/-- `f64(n)` (R10): the integer n converted with the same rounding. -/
def F64.ofNat (n : Nat) : F64 := F64.round false (n <<< 1074) 1

/-- The binary64 value nearest to num / den: a decimal literal of R10. -/
def F64.ratio (num den : Nat) : F64 := F64.round false (num <<< 1074) den

/-- The place of a value that is no NaN in the order of R10: both zeros have the same place. -/
def F64.key (a : F64) : Int := if a.sign then -(a.magBits : Int) else a.magBits

/-- `<` on f64 (R10): false when an operand is a NaN. -/
def F64.lt (a b : F64) : Bool := !a.isNaN && !b.isNaN && decide (a.key < b.key)

/-- `≤` on f64 (R10): false when an operand is a NaN. -/
def F64.le (a b : F64) : Bool := !a.isNaN && !b.isNaN && decide (a.key ≤ b.key)

/-- `>` on f64 (R10). -/
def F64.gt (a b : F64) : Bool := F64.lt b a

/-- `≥` on f64 (R10). -/
def F64.ge (a b : F64) : Bool := F64.le b a

/-- `=` on f64 (R10): false when an operand is a NaN, and −0.0 = +0.0. -/
def F64.eq (a b : F64) : Bool := !a.isNaN && !b.isNaN && decide (a.key = b.key)

/-- `min(a, b)` (R10): b when b < a, otherwise a. -/
def F64.min (a b : F64) : F64 := if F64.lt b a then b else a

/-- `sum(L)` (R12): sequential from +0.0, in list order. Every sum of the spec stands in a pure function. -/
def F64.sum (l : List F64) : F64 := l.foldl (F64.add .pure) (F64.zero false)

end Sys2Proof
end

