-- ==== Sys2Proof/Machine/State.lean ====
section
/-! DEFINITION. The state of the core (spec 10, R20 to R48): plain data, and its value after reset. -/

namespace Sys2Proof.Machine

/-- The nine configuration registers (R20). Each holds the 64 bits last written, legal or not (R21). -/
structure CfgRegs where
  sampleRate : U64
  chunkSize : U64
  targetFreq : F64
  freqTol : F64
  ambLearnTime : F64
  sustainTime : F64
  latchTime : F64
  minRatio : F64
  occThresh : F64
  deriving DecidableEq, Repr

/-- The reset values of the configuration registers (R20, R48): the source's stated defaults. -/
def CfgRegs.reset : CfgRegs where
  sampleRate := 44100#64
  chunkSize := 4096#64
  targetFreq := 0x40A9000000000000#64
  freqTol := 0x4079000000000000#64
  ambLearnTime := 0x4024000000000000#64
  sustainTime := 0x4010000000000000#64
  latchTime := 0x4072C00000000000#64
  minRatio := 0x4052C00000000000#64
  occThresh := 0x3FD0000000000000#64

/-- A detection window, a record of the ring buffer (R33). -/
structure Window where
  ts : F64
  strong : Bool
  freq : F64
  ratio : F64
  mag : F64
  deriving DecidableEq, Repr

/-- A frontend result (R138): what FE_PEAK_MAG, FE_PEAK_FREQ, FE_BACKGROUND, FE_MEAN_ALL and FE_EMPTY hold (R37). -/
structure FrontendResult where
  peakMag : F64
  peakFreq : F64
  background : F64
  meanAll : F64
  empty : Bool
  deriving DecidableEq, Repr

/-- The reset value of the frontend result registers (R48). -/
def FrontendResult.reset : FrontendResult := ⟨0#64, 0#64, 0#64, 0#64, false⟩

/-- The seven event registers (R38). -/
structure EventRegs where
  ts : F64
  freq : F64
  strength : F64
  conf : F64
  type : U64
  occ : F64
  window : F64
  deriving DecidableEq, Repr

/-- The reset value of the event registers (R48). -/
def EventRegs.reset : EventRegs := ⟨0#64, 0#64, 0#64, 0#64, 0#64, 0#64, 0#64⟩

/-- What the core drives with a response (R61): RESULT, RDATA and the EVT strobe. -/
structure Response where
  result : U8
  rdata : Word
  evt : Bool
  deriving DecidableEq, Repr

/-- What reaches the core's input ports next (R61): a command, as CMD and DATA, or the reset input RST. -/
inductive HostAct
  | command (cmd : CmdWord) (data : Word)
  | rst
  deriving DecidableEq, Repr

/-- The whole state of the core (R20 to R44), with the response port (R61) and the model's own fields `host`,
`wallDraws` and `nanDraws` (assumptions 1, 3, 4). FILL is the length of `inBuf` and WIN_COUNT the length of `windows`
(assumption 8). STATUS, MODE and IDENT are computed (R24, R42, R44). -/
structure State where
  /-- The configuration registers (R20). -/
  cfg : CfgRegs
  /-- CONFIGURED (R23). -/
  configured : Bool
  /-- START_TIME (R26). -/
  startTime : F64
  /-- STARTED (R26). -/
  started : Bool
  /-- LAST_TIME (R30). -/
  lastTime : F64
  /-- AMB_LEVEL (R27). -/
  ambLevel : F64
  /-- AMB_COUNT (R27). -/
  ambCount : U64
  /-- LEARN (R28). -/
  learn : Bool
  /-- LAST_ALARM_TIME (R29). -/
  lastAlarmTime : F64
  /-- HAS_ALARM (R29). -/
  hasAlarm : Bool
  /-- LATCH, the stored alarm latch (R31). -/
  latch : Bool
  /-- The samples IN[0] to IN[FILL-1] of the input buffer, oldest first (R32). -/
  inBuf : List F64
  /-- OVF (R32). -/
  ovf : Bool
  /-- The windows WIN[0] to WIN[WIN_COUNT-1] of the ring buffer, oldest first (R34). -/
  windows : List Window
  /-- The frontend result registers (R37). -/
  fe : FrontendResult
  /-- FE_VALID (R37). -/
  feValid : Bool
  /-- The event registers (R38). -/
  evt : EventRegs
  /-- EVT_VALID (R39). -/
  evtValid : Bool
  /-- LAST_ERR (R40). -/
  lastErr : U8
  /-- LAST_PATH (R41). -/
  lastPath : U8
  /-- The response port: the response to the last command, none since reset (R48, R61). -/
  resp : Option Response
  /-- The model's own: what reaches the input ports next, the first act first. -/
  host : List HostAct
  /-- The model's own: how many WALLCLK values have been drawn. -/
  wallDraws : Nat
  /-- The model's own: how many PROC commands have done detector arithmetic. -/
  nanDraws : Nat
  deriving DecidableEq, Repr

/-- Why the machine stops with a fault: it never does. The spec gives no stop: "Every command terminates with a
response; the core has no wait, hold or stuck state" (R282), and every error is a result code (R244). So the type has
no constructor, and nothing raises one. -/
inductive Fault
  deriving DecidableEq, Repr

/-- Why an instruction has no meaning. -/
inductive Refusal
  /-- The instruction has no meaning in this model yet; raised only by an arm of `exec`. Safe. No arm raises it:
  every command has its meaning. -/
  | notModelled (mnemonic : String)
  deriving DecidableEq, Repr

/-- The machine after the reset input (R48, R270): every register at the value the spec states, no response driven,
and nothing issued yet. -/
def State.reset : State where
  cfg := CfgRegs.reset
  configured := false
  startTime := 0#64
  started := false
  lastTime := 0#64
  ambLevel := 0#64
  ambCount := 0#64
  learn := true
  lastAlarmTime := 0#64
  hasAlarm := false
  latch := false
  inBuf := []
  ovf := false
  windows := []
  fe := FrontendResult.reset
  feValid := false
  evt := EventRegs.reset
  evtValid := false
  lastErr := 0#8
  lastPath := 0#8
  resp := none
  host := []
  wallDraws := 0
  nanDraws := 0

end Sys2Proof.Machine
end

