-- ==== Sys2Proof/Machine/Ops.lean ====
section
/-! DEFINITION. The shared operations of the commands: responding, raising an error (the core's "trap entry",
spec 60 section 2), emptying the input buffer, clearing an instance, appending a window, and the reset input. -/

namespace Sys2Proof.Machine

/-- The result codes (R240). -/
inductive ResultCode
  | ok
  | event
  | errIllegal
  | errBadSelect
  | errNotConfigured
  | errCfgLocked
  | errConfigInvalid
  | errBufFull
  | errWrongLength
  | errTimestamp
  deriving DecidableEq, Repr

/-- The 8-bit RESULT value of a result code (R240). -/
def ResultCode.byte : ResultCode → U8
  | .ok => 0x00#8
  | .event => 0x01#8
  | .errIllegal => 0x80#8
  | .errBadSelect => 0x81#8
  | .errNotConfigured => 0x82#8
  | .errCfgLocked => 0x83#8
  | .errConfigInvalid => 0x84#8
  | .errBufFull => 0x85#8
  | .errWrongLength => 0x86#8
  | .errTimestamp => 0x87#8

/-- FILL (R32): the number of samples in the input buffer. -/
def State.fill (s : State) : Nat := s.inBuf.length

/-- WIN_COUNT (R34): the number of windows in the ring buffer. -/
def State.winCount (s : State) : Nat := s.windows.length

/-- N (R22): CHUNK_SIZE as an integer. -/
def State.chunkLen (s : State) : Nat := s.cfg.chunkSize.toNat

/-- `respond(code, data)` (R61): drive RESULT, RDATA and EVT. EVT is asserted with the code EVENT, which only PROC
returns (R240, R252). -/
def State.respond (s : State) (code : ResultCode) (data : Word) : State :=
  { s with resp := some ⟨code.byte, data, code == .event⟩ }

/-- `raise ERR_X(info)` (R245): the one way a command reports an error. It drives RESULT and RDATA, deasserts EVT, and
writes LAST_ERR; nothing is saved, no mode changes and no handler runs (R244), so the next command is accepted as
usual and there is no return from it (R246). -/
def State.raise (s : State) (code : ResultCode) (info : Word) : State :=
  { s with lastErr := code.byte, resp := some ⟨code.byte, info, false⟩ }

/-- FILL ← 0 and OVF ← 0 (R32). -/
def State.emptyBuffer (s : State) : State := { s with inBuf := [], ovf := false }

/-- Every state marked "INIT" in R48 ← its reset value: what INIT (R107) and SRST (R109) share. -/
def State.clearInstance (s : State) : State :=
  { s with
    startTime := 0#64
    started := false
    lastTime := 0#64
    ambLevel := 0#64
    ambCount := 0#64
    learn := true
    lastAlarmTime := 0#64
    hasAlarm := false
    latch := false
    inBuf := []
    ovf := false
    windows := []
    fe := FrontendResult.reset
    feValid := false
    evt := EventRegs.reset
    evtValid := false
    lastPath := 0#8 }

/-- A list of windows with one appended, the oldest evicted when there are already WIN_CAP (R35). -/
def appendWindow (l : List Window) (w : Window) : List Window :=
  if l.length = Config.winCap then l.tail ++ [w] else l ++ [w]

/-- `WinAppend(w)` (R35). -/
def State.winAppend (s : State) (w : Window) : State := { s with windows := appendWindow s.windows w }

/-- The reset input (R270): every register takes its reset value and no response is driven. What reaches the ports
later is the host's, and the draws already made are not made again (assumption 10). -/
def State.hardReset (s : State) : State :=
  { State.reset with host := s.host, wallDraws := s.wallDraws, nanDraws := s.nanDraws }

end Sys2Proof.Machine
end

