-- ==== Sys2Proof/Machine/Flags.lean ====
section
/-! DEFINITION. The derived mode and the STATUS register (spec 10 R24, R44). -/

namespace Sys2Proof.Machine

/-- The mode (R24): derived, never stored. -/
inductive Mode
  | unconfigured
  | learning
  | active
  | latched
  deriving DecidableEq, Repr

/-- The two bits STATUS.MODE reports (R24, R44). -/
def Mode.bits : Mode → BitVec 2
  | .unconfigured => 0#2
  | .learning => 1#2
  | .active => 2#2
  | .latched => 3#2

/-- The mode of a state (R24). LATCHED reports the stored latch flag. -/
def State.mode (s : State) : Mode :=
  if !s.configured then .unconfigured
  else if s.learn then .learning
  else if s.latch then .latched
  else .active

/-- One flag as a bit of STATUS. -/
def flagBit (b : Bool) : BitVec 1 := BitVec.ofBool b

/-- STATUS (R44), assembled at the read, from bit 63 down to bit 0. -/
def State.status (s : State) : Word :=
  0#32 ++ s.lastPath ++ s.lastErr ++ 0#6 ++ flagBit s.evtValid ++ flagBit s.fe.empty ++ flagBit s.feValid
    ++ flagBit s.ovf ++ flagBit s.hasAlarm ++ flagBit s.started ++ flagBit s.latch ++ flagBit s.learn ++ s.mode.bits

end Sys2Proof.Machine
end

