-- ==== Sys2Proof/Machine/Operands.lean ====
section
/-! DEFINITION. The word spaces a selector reaches (spec 20 R63), each register's value in the word format of R62. -/

namespace Sys2Proof.Machine

/-- A bool as a word (R62): bit 0. -/
def boolWord (b : Bool) : Word := if b then 1#64 else 0#64

/-- The configuration registers by index (R20). -/
inductive CfgReg
  | sampleRate
  | chunkSize
  | targetFreq
  | freqTol
  | ambLearnTime
  | sustainTime
  | latchTime
  | minRatio
  | occThresh
  deriving DecidableEq, Repr

/-- The configuration register a selector names (R20): 9 to 255 name none. -/
def CfgReg.ofSel (sel : BitVec 8) : Option CfgReg :=
  match sel.toNat with
  | 0 => some .sampleRate
  | 1 => some .chunkSize
  | 2 => some .targetFreq
  | 3 => some .freqTol
  | 4 => some .ambLearnTime
  | 5 => some .sustainTime
  | 6 => some .latchTime
  | 7 => some .minRatio
  | 8 => some .occThresh
  | _ => none

/-- `CFG[i]`: the stored 64 bits (R21). -/
def CfgRegs.read (c : CfgRegs) : CfgReg → Word
  | .sampleRate => c.sampleRate
  | .chunkSize => c.chunkSize
  | .targetFreq => c.targetFreq
  | .freqTol => c.freqTol
  | .ambLearnTime => c.ambLearnTime
  | .sustainTime => c.sustainTime
  | .latchTime => c.latchTime
  | .minRatio => c.minRatio
  | .occThresh => c.occThresh

/-- `CFG[i] ← v`: the 64 bits unchanged (R21). -/
def CfgRegs.write (c : CfgRegs) (r : CfgReg) (v : Word) : CfgRegs :=
  match r with
  | .sampleRate => { c with sampleRate := v }
  | .chunkSize => { c with chunkSize := v }
  | .targetFreq => { c with targetFreq := v }
  | .freqTol => { c with freqTol := v }
  | .ambLearnTime => { c with ambLearnTime := v }
  | .sustainTime => { c with sustainTime := v }
  | .latchTime => { c with latchTime := v }
  | .minRatio => { c with minRatio := v }
  | .occThresh => { c with occThresh := v }

/-- The registers of the status space (R63). -/
inductive StatusReg
  | status
  | fill
  | startTime
  | lastTime
  | ambLevel
  | ambCount
  | lastAlarmTime
  | winCount
  | fePeakMag
  | fePeakFreq
  | feBackground
  | feMeanAll
  | ident
  deriving DecidableEq, Repr

/-- The status register an address names (R63): 0x0D to 0xFF name none. -/
def StatusReg.ofSel (sel : BitVec 8) : Option StatusReg :=
  match sel.toNat with
  | 0x00 => some .status
  | 0x01 => some .fill
  | 0x02 => some .startTime
  | 0x03 => some .lastTime
  | 0x04 => some .ambLevel
  | 0x05 => some .ambCount
  | 0x06 => some .lastAlarmTime
  | 0x07 => some .winCount
  | 0x08 => some .fePeakMag
  | 0x09 => some .fePeakFreq
  | 0x0A => some .feBackground
  | 0x0B => some .feMeanAll
  | 0x0C => some .ident
  | _ => none

/-- The value REGR returns for a status register (R63, R221): the stored value, whatever its valid bit says. -/
def State.readStatus (s : State) : StatusReg → Word
  | .status => s.status
  | .fill => BitVec.ofNat 64 s.fill
  | .startTime => s.startTime
  | .lastTime => s.lastTime
  | .ambLevel => s.ambLevel
  | .ambCount => s.ambCount
  | .lastAlarmTime => s.lastAlarmTime
  | .winCount => BitVec.ofNat 64 s.winCount
  | .fePeakMag => s.fe.peakMag
  | .fePeakFreq => s.fe.peakFreq
  | .feBackground => s.fe.background
  | .feMeanAll => s.fe.meanAll
  | .ident => Config.ident

/-- The fields of a window (R33, R63). -/
inductive WindowField
  | ts
  | strong
  | freq
  | ratio
  | mag
  deriving DecidableEq, Repr

/-- The window field a selector names (R63): 5 to 255 name none. -/
def WindowField.ofSel (sel : BitVec 8) : Option WindowField :=
  match sel.toNat with
  | 0 => some .ts
  | 1 => some .strong
  | 2 => some .freq
  | 3 => some .ratio
  | 4 => some .mag
  | _ => none

/-- A field of a window as a word: STRONG as a bool, the others as f64 (R222). -/
def Window.read (w : Window) : WindowField → Word
  | .ts => w.ts
  | .strong => boolWord w.strong
  | .freq => w.freq
  | .ratio => w.ratio
  | .mag => w.mag

/-- The event registers (R38, R63). -/
inductive EventField
  | ts
  | freq
  | strength
  | conf
  | type
  | occ
  | window
  deriving DecidableEq, Repr

/-- The event register a selector names (R63): 7 to 255 name none. -/
def EventField.ofSel (sel : BitVec 8) : Option EventField :=
  match sel.toNat with
  | 0 => some .ts
  | 1 => some .freq
  | 2 => some .strength
  | 3 => some .conf
  | 4 => some .type
  | 5 => some .occ
  | 6 => some .window
  | _ => none

/-- An event register as a word: EVT_TYPE as a u64, the others as f64 (R224). -/
def EventRegs.read (e : EventRegs) : EventField → Word
  | .ts => e.ts
  | .freq => e.freq
  | .strength => e.strength
  | .conf => e.conf
  | .type => e.type
  | .occ => e.occ
  | .window => e.window

end Sys2Proof.Machine
end

