-- ==== Sys2Proof/Machine/Control.lean ====
section
/-! DEFINITION. The control and configuration commands NOP, CFGW, CFGR, INIT and SRST (spec 40). -/

namespace Sys2Proof.Machine

/-- NOP (R100). -/
def execNop (s : State) : Host.Outcome State Fault Refusal := .next (s.respond .ok 0#64)

/-- CFGW (R101): ERR_BAD_SELECT before ERR_CFG_LOCKED (R242). -/
def execCfgw (sel : BitVec 8) (value : Word) (s : State) : Host.Outcome State Fault Refusal :=
  match CfgReg.ofSel sel with
  | none => .next (s.raise .errBadSelect 0#64)
  | some r =>
    if s.configured then .next (s.raise .errCfgLocked 0#64)
    else .next ({ s with cfg := s.cfg.write r value }.respond .ok 0#64)

/-- CFGR (R103). -/
def execCfgr (sel : BitVec 8) (s : State) : Host.Outcome State Fault Refusal :=
  match CfgReg.ofSel sel with
  | none => .next (s.raise .errBadSelect 0#64)
  | some r => .next (s.respond .ok (s.cfg.read r))

/-- The test of SAMPLE_RATE (R106): 1 ≤ v ≤ 2^32 − 1. -/
def legalSampleRate (v : U64) : Bool := decide (1 ≤ v.toNat) && decide (v.toNat ≤ 2 ^ 32 - 1)

/-- v ≤ CHUNK_MAX, compared above 4096, so that it is settled for every v up to 4096 whatever CHUNK_MAX is. -/
def withinChunkMax (v : U64) : Bool := decide (v.toNat - 4096 ≤ Config.chunkMaxExtra)

/-- The test of CHUNK_SIZE (R106): 1 ≤ v ≤ CHUNK_MAX. -/
def legalChunkSize (v : U64) : Bool := decide (1 ≤ v.toNat) && withinChunkMax v

/-- The test of the f64 configuration registers 2 to 7 (R106): finite and > 0.0. -/
def legalPositive (v : F64) : Bool := v.isFinite && F64.gt v (F64.zero false)

/-- The test of OCC_THRESH (R106): > 0.0 and < 1.0. -/
def legalFraction (v : F64) : Bool := F64.gt v (F64.zero false) && F64.lt v (F64.ofNat 1)

/-- The test configuration register r makes of its value (R106). -/
def CfgReg.legal (r : CfgReg) (v : Word) : Bool :=
  match r with
  | .sampleRate => legalSampleRate v
  | .chunkSize => legalChunkSize v
  | .targetFreq => legalPositive v
  | .freqTol => legalPositive v
  | .ambLearnTime => legalPositive v
  | .sustainTime => legalPositive v
  | .latchTime => legalPositive v
  | .minRatio => legalPositive v
  | .occThresh => legalFraction v

/-- Bit r of ConfigCheck's mask (R106): 1 when the register fails its test. -/
def CfgRegs.badBit (c : CfgRegs) (r : CfgReg) : BitVec 1 := BitVec.ofBool (!r.legal (c.read r))

/-- `ConfigCheck()` (R106): the mask of failing registers, register i at bit i. -/
def CfgRegs.check (c : CfgRegs) : Word :=
  0#55 ++ c.badBit .occThresh ++ c.badBit .minRatio ++ c.badBit .latchTime ++ c.badBit .sustainTime
    ++ c.badBit .ambLearnTime ++ c.badBit .freqTol ++ c.badBit .targetFreq ++ c.badBit .chunkSize
    ++ c.badBit .sampleRate

/-- `InitInstance()` (R107). -/
def State.initInstance (s : State) : State := { s.clearInstance with configured := true }

/-- INIT (R105). -/
def execInit (s : State) : Host.Outcome State Fault Refusal :=
  if s.configured then .next (s.raise .errCfgLocked 0#64)
  else if s.cfg.check ≠ 0#64 then .next (s.raise .errConfigInvalid s.cfg.check)
  else .next (s.initInstance.respond .ok 0#64)

/-- SRST (R109): the configuration registers and LAST_ERR are kept (R271). -/
def execSrst (s : State) : Host.Outcome State Fault Refusal :=
  .next ({ s.clearInstance with configured := false }.respond .ok 0#64)

end Sys2Proof.Machine
end

