-- ==== Sys2Proof/Machine/Frontend.lean ====
section
/-! DEFINITION. The Spectral Frontend and ANLZ (spec 42). -/

namespace Sys2Proof

/-- A value that R132 item 2 allows as a magnitude: finite, with sign bit 0. -/
def isMagnitude (v : F64) : Bool := v.isFinite && !v.sign

/-- SPECMAG (R132, R139), bin k of the magnitudes of the samples x: the free function `Config.specmagRaw`, made to have
the properties of R132. Determinism (item 1) is being a function; for all-zero samples every magnitude is +0.0 (item
3); for finite samples every magnitude is finite with sign bit 0 (item 2); for other samples it is any f64 (R139).
Every function with those properties can arise. -/
def specmag (x : List F64) (k : Nat) : F64 :=
  let v := Config.specmagRaw Config.hannVariant x k
  if x.all F64.isZero then F64.zero false
  else if x.all F64.isFinite && !isMagnitude v then F64.zero false
  else v

namespace Machine

/-- One bin of the spectrum: its frequency f_k (R133) and its magnitude M[k] (R132). -/
structure Bin where
  freq : F64
  mag : F64
  deriving DecidableEq, Repr

/-- df (R47, R133): f64(fs) ÷ f64(N). -/
def CfgRegs.binSpacing (c : CfgRegs) : F64 :=
  F64.div .pure (F64.ofNat c.sampleRate.toNat) (F64.ofNat c.chunkSize.toNat)

/-- nbins (R47, R130): ⌊N/2⌋ + 1. -/
def CfgRegs.binCount (c : CfgRegs) : Nat := c.chunkSize.toNat / 2 + 1

/-- lo (R47): the lower edge of the target band. -/
def CfgRegs.bandLow (c : CfgRegs) : F64 := F64.sub .pure c.targetFreq c.freqTol

/-- hi (R47): the upper edge of the target band. -/
def CfgRegs.bandHigh (c : CfgRegs) : F64 := F64.add .pure c.targetFreq c.freqTol

/-- f_k (R133): f64(k) × df. -/
def CfgRegs.binFreq (c : CfgRegs) (k : Nat) : F64 := F64.mul .pure (F64.ofNat k) c.binSpacing

/-- lo ≤ f and f ≤ hi: the closed target band (R134, R196 (g)). -/
def CfgRegs.inBand (c : CfgRegs) (f : F64) : Bool := F64.le c.bandLow f && F64.le f c.bandHigh

/-- The bins of the spectrum of x, ascending (R130, R133). -/
def chunkBins (c : CfgRegs) (x : List F64) : List Bin :=
  (List.range c.binCount).map fun k => ⟨c.binFreq k, specmag x k⟩

/-- T (R134): the target bins, ascending. -/
def targetBins (c : CfgRegs) (l : List Bin) : List Bin := l.filter fun b => c.inBand b.freq

/-- C (R134): the other bins, ascending. -/
def otherBins (c : CfgRegs) (l : List Bin) : List Bin := l.filter fun b => !c.inBand b.freq

/-- The mean of the magnitudes of a list of bins (R135, R137): the sequential sum ÷ f64(count). -/
def meanMag (l : List Bin) : F64 := F64.div .pure (F64.sum (l.map Bin.mag)) (F64.ofNat l.length)

/-- The peak among a candidate and later bins (R136): a later bin replaces it only with a greater magnitude, so the
lowest-index bin wins among equal maxima and a NaN never replaces (R139). -/
def peakFrom (b : Bin) (l : List Bin) : Bin := l.foldl (fun b k => if F64.gt k.mag b.mag then k else b) b

/-- `Frontend(x)` (R138). -/
def frontend (c : CfgRegs) (x : List F64) : FrontendResult :=
  let bins := chunkBins c x
  let meanAll := meanMag bins
  let background :=
    match otherBins c bins with
    | [] => F64.mul .pure (F64.ratio 1 10) meanAll
    | b :: l => meanMag (b :: l)
  match targetBins c bins with
  | [] => ⟨F64.zero false, F64.zero false, background, meanAll, true⟩
  | b :: l => ⟨(peakFrom b l).mag, (peakFrom b l).freq, background, meanAll, false⟩

/-- The frontend result registers after a run of the frontend (R37, R140, R168). -/
def State.setFrontend (s : State) (r : FrontendResult) : State := { s with fe := r, feValid := true }

/-- The chunk in the input buffer is short or over-long (R140, R162): FILL ≠ CHUNK_SIZE or OVF = 1. -/
def State.wrongLength (s : State) : Bool := s.fill != s.chunkLen || s.ovf

/-- ANLZ (R140): a rejected chunk is discarded as well. -/
def execAnlz (s : State) : Host.Outcome State Fault Refusal :=
  if !s.configured then .next (s.raise .errNotConfigured 0#64)
  else if s.wrongLength then .next (s.emptyBuffer.raise .errWrongLength 0#64)
  else .next ((s.emptyBuffer.setFrontend (frontend s.cfg s.inBuf)).respond .ok 0#64)

end Machine

end Sys2Proof
end

