-- ==== Sys2Proof/Machine/Sustained.lean ====
section
/-! DEFINITION. The sustained-window analysis and the detection (spec 44). -/

namespace Sys2Proof.Machine

/-- EPS (R7): the binary64 value nearest to 1e-10. -/
def eps : F64 := F64.ratio 1 10000000000

/-- What `Sustained(t)` returns when it detects (R190). -/
structure Detection where
  occ : F64
  avgFreq : F64
  avgRatio : F64
  deriving DecidableEq, Repr

/-- t − TS ≤ SUSTAIN_TIME (R192): the window is recent. -/
def Window.recent (c : CfgRegs) (t : F64) (w : Window) : Bool := F64.le (F64.sub .pure t w.ts) c.sustainTime

/-- `sum(l) ÷ n` with n = f64(len(l)) (R190, R195). -/
def mean (l : List F64) : F64 := F64.div .pure (F64.sum l) (F64.ofNat l.length)

/-- (x − m) × (x − m) (R195). -/
def squaredDeviation (m x : F64) : F64 := F64.mul .pure (F64.sub .pure x m) (F64.sub .pure x m)

/-- The population standard deviation of l about m (R195): sqrt(sum of squared deviations ÷ n). -/
def deviation (l : List F64) (m : F64) : F64 := F64.sqrt .pure (mean (l.map (squaredDeviation m)))

/-- Condition (e) of R196. -/
def frequencyConsistent (freqStd avgRatio : F64) : Bool :=
  (F64.lt (F64.ofNat 10) freqStd && F64.lt freqStd (F64.ofNat 100))
    || (F64.le freqStd (F64.ofNat 10) && F64.gt avgRatio (F64.ofNat 500))

/-- `Decide` (R196), conditions (a) to (h) in order; (d) and (f) are both evaluated, as R197 asks. -/
def decideDetection (c : CfgRegs) (occ avgFreq freqStd avgRatio ssv : F64) (nStrong : Nat) : Bool :=
  F64.ge occ c.occThresh
    && (F64.le (F64.ratio 20 100) occ && F64.le occ (F64.ratio 80 100))
    && F64.gt avgRatio c.minRatio
    && (F64.le (F64.ratio 1 10) ssv && F64.le ssv (F64.ofNat 2))
    && frequencyConsistent freqStd avgRatio
    && (F64.lt (F64.ratio 2 10) ssv && F64.lt ssv (F64.ratio 12 10))
    && c.inBand avgFreq
    && decide (5 ≤ nStrong)

/-- The statistics of step 5 and the decision of step 6 over the recent and the strong windows (R193, R195, R196). -/
def analyseStrong (c : CfgRegs) (recent strong : List Window) : Option Detection :=
  let occ := F64.div .pure (F64.ofNat strong.length) (F64.ofNat recent.length)
  let freqs := strong.map Window.freq
  let ratios := strong.map Window.ratio
  let avgFreq := mean freqs
  let freqStd := deviation freqs avgFreq
  let avgRatio := mean ratios
  let ratioStd := deviation ratios avgRatio
  let ssv := F64.div .pure ratioStd (F64.add .pure avgRatio eps)
  if decideDetection c occ avgFreq freqStd avgRatio ssv strong.length then some ⟨occ, avgFreq, avgRatio⟩ else none

/-- `Sustained(t)` (R190): a function of the ring buffer, the configuration and t (R199). -/
def sustained (c : CfgRegs) (windows : List Window) (t : F64) : Option Detection :=
  let recent := windows.filter (Window.recent c t)
  let strong := recent.filter Window.strong
  if windows.length < 5 then none
  else if recent.length < 3 then none
  else if strong.length < 2 then none
  else analyseStrong c recent strong

/-- The event a detection at time t writes (R205). -/
def eventOf (c : CfgRegs) (t : F64) (d : Detection) : EventRegs where
  ts := t
  freq := d.avgFreq
  strength := d.avgRatio
  conf := F64.min (F64.ofNat 1) (F64.mul .pure d.occ (F64.ofNat 2))
  type := 1#64
  occ := d.occ
  window := c.sustainTime

/-- `Detect(t, d)` (R204): the only writer of LATCH ← 1, LAST_ALARM_TIME and the event registers. -/
def State.detect (s : State) (t : F64) (d : Detection) : State :=
  { s with lastAlarmTime := t, hasAlarm := true, latch := true, evt := eventOf s.cfg t d, evtValid := true }

end Sys2Proof.Machine
end

