-- ==== Sys2Proof/Machine/Detector.lean ====
section
/-! DEFINITION. PROC, the Adaptive Detector's processing of one chunk (spec 43). -/

namespace Sys2Proof.Machine

/-- The current time of a PROC (R163): its DATA word, or the next draw of WALLCLK. -/
def State.stampTime (s : State) : Stamp → F64
  | .wall => Config.wallclk s.wallDraws
  | .given t => t

/-- The state after the current time is read: a WALLCLK draw is counted (assumption 3). -/
def State.afterStamp (s : State) : Stamp → State
  | .wall => { s with wallDraws := s.wallDraws + 1 }
  | .given _ => s

/-- The timestamp test (R164): t is finite, and no lower than LAST_TIME once a PROC was accepted. -/
def State.timeOk (s : State) (t : F64) : Bool := t.isFinite && !(s.started && !F64.ge t s.lastTime)

/-- Acceptance (R166): the chunk is taken, START_TIME is set by the first PROC, LAST_TIME by every one. -/
def State.accept (s : State) (t : F64) : State :=
  { s with
    inBuf := []
    ovf := false
    startTime := if s.started then s.startTime else t
    started := true
    lastTime := t }

/-- The latch is in force at time t (R31, R167). -/
def State.latchInForce (s : State) (t : F64) : Bool :=
  s.latch && F64.lt (F64.sub .pure t s.lastAlarmTime) s.cfg.latchTime

/-- The end of an accepted PROC (R161): the path code is recorded in LAST_PATH and returned in RDATA. -/
def State.finishPath (s : State) (code : ResultCode) (path : U8) : State :=
  { s with lastPath := path }.respond code (path.setWidth 64)

/-- The learning test (R169): LEARN = 1 and t − START_TIME < AMB_LEARN_TIME. -/
def State.learningAt (s : State) (t : F64) : Bool :=
  s.learn && F64.lt (F64.sub .pure t s.startTime) s.cfg.ambLearnTime

/-- AMB_LEVEL + (bg − AMB_LEVEL) ÷ f64(count), each operation rounded (R170). -/
def runningMean (site : NanSite) (level bg : F64) (count : U64) : F64 :=
  F64.add site level (F64.div site (F64.sub site bg level) (F64.ofNat count.toNat))

/-- The ambient update (R170): AMB_COUNT is incremented modulo 2^64 and divides. -/
def State.learnFrom (s : State) (bg : F64) : State :=
  { s with
    ambCount := s.ambCount + 1#64
    ambLevel := runningMean (.draw s.nanDraws) s.ambLevel bg (s.ambCount + 1#64)
    nanDraws := s.nanDraws + 1 }

/-- signal_to_background (R172). -/
def signalToBackground (site : NanSite) (level peak : F64) : F64 := F64.div site peak (F64.add site level eps)

/-- The strong test (R173): three strict comparisons. -/
def strongTest (c : CfgRegs) (site : NanSite) (level : F64) (r : FrontendResult) : Bool :=
  F64.gt (signalToBackground site level r.peakMag) c.minRatio
    && F64.gt (F64.div site r.peakMag (F64.add site r.background eps)) (F64.ofNat 8)
    && F64.gt r.peakMag (F64.mul site (F64.ofNat 12) r.meanAll)

/-- The window of a classified chunk (R175). -/
def classify (c : CfgRegs) (site : NanSite) (level t : F64) (r : FrontendResult) : Window where
  ts := t
  strong := strongTest c site level r
  freq := r.peakFreq
  ratio := signalToBackground site level r.peakMag
  mag := r.peakMag

/-- Classification and window append (R172 to R175); LEARN is 0 from here on (R169). -/
def State.classified (s : State) (t : F64) (r : FrontendResult) : State :=
  { s.winAppend (classify s.cfg (.draw s.nanDraws) s.ambLevel t r) with
    learn := false
    nanDraws := s.nanDraws + 1 }

/-- The sustained analysis and its result (R176): path 3 without a detection, path 4 with one. -/
def State.analysed (s : State) (t : F64) : State :=
  match sustained s.cfg s.windows t with
  | none => s.finishPath .ok 3#8
  | some d => (s.detect t d).finishPath .event 4#8

/-- An accepted chunk that the latch does not suppress (R167 to R176), from the frontend on. -/
def State.processed (s : State) (t : F64) (r : FrontendResult) : State :=
  if s.learningAt t then (s.learnFrom r.background).finishPath .ok 2#8
  else (s.classified t r).analysed t

/-- An accepted chunk that the latch does not suppress: the latch is cleared, the frontend run (R167, R168). -/
def State.unlatched (s : State) (t : F64) : State :=
  { s.accept t with latch := false }.setFrontend (frontend s.cfg s.inBuf)

/-- PROC from the timestamp test on (R160, R164 to R168). -/
def State.procAt (s : State) (t : F64) : State :=
  if !s.timeOk t then s.emptyBuffer.raise .errTimestamp 0#64
  else if (s.accept t).latchInForce t then (s.accept t).finishPath .ok 1#8
  else (s.unlatched t).processed t (frontend s.cfg s.inBuf)

/-- PROC (R160): the chunk length is tested before the timestamp (R162, R242). -/
def execProc (stamp : Stamp) (s : State) : Host.Outcome State Fault Refusal :=
  if !s.configured then .next (s.raise .errNotConfigured 0#64)
  else if s.wrongLength then .next (s.emptyBuffer.raise .errWrongLength 0#64)
  else .next ((s.afterStamp stamp).procAt (s.stampTime stamp))

end Sys2Proof.Machine
end

