-- ==== Sys2Proof/Machine/Input.lean ====
section
/-! DEFINITION. PUSH, the sample input (spec 41). -/

namespace Sys2Proof.Machine

/-- PUSH (R120): every 64-bit pattern is accepted as a sample (R122); the sample pushed to a full buffer is dropped,
and OVF records it. -/
def execPush (sample : F64) (s : State) : Host.Outcome State Fault Refusal :=
  if !s.configured then .next (s.raise .errNotConfigured 0#64)
  else if s.fill = s.chunkLen then .next ({ s with ovf := true }.raise .errBufFull 0#64)
  else .next ({ s with inBuf := s.inBuf ++ [sample] }.respond .ok 0#64)

end Sys2Proof.Machine
end

