-- ==== Sys2Proof/Machine/Readback.lean ====
section
/-! DEFINITION. The read-back commands REGR, WINR and EVTR (spec 45). None writes any state but the response. -/

namespace Sys2Proof.Machine

/-- REGR (R220). -/
def execRegr (sel : BitVec 8) (s : State) : Host.Outcome State Fault Refusal :=
  match StatusReg.ofSel sel with
  | none => .next (s.raise .errBadSelect 0#64)
  | some r => .next (s.respond .ok (s.readStatus r))

/-- WINR (R222): the index is the arrival order, 0 the oldest window held (R223). -/
def execWinr (sel : BitVec 8) (idx : BitVec 16) (s : State) : Host.Outcome State Fault Refusal :=
  match WindowField.ofSel sel, s.windows[idx.toNat]? with
  | some f, some w => .next (s.respond .ok (w.read f))
  | _, _ => .next (s.raise .errBadSelect 0#64)

/-- EVTR (R224): reading an event does not consume it. -/
def execEvtr (sel : BitVec 8) (s : State) : Host.Outcome State Fault Refusal :=
  match EventField.ofSel sel with
  | none => .next (s.raise .errBadSelect 0#64)
  | some e => .next (s.respond .ok (s.evt.read e))

end Sys2Proof.Machine
end

