-- ==== Sys2Proof/Machine/Dispatch.lean ====
section
/-! DEFINITION. Which meaning each command of the opcode map (spec 30 R82) has: one arm per constructor. -/

namespace Sys2Proof.Machine

def exec (i : Instr) (s : State) : Host.Outcome State Fault Refusal :=
  match i with
  | .nop => Sys2Proof.Machine.execNop s
  | .cfgw sel value => Sys2Proof.Machine.execCfgw sel value s
  | .cfgr sel => Sys2Proof.Machine.execCfgr sel s
  | .init => Sys2Proof.Machine.execInit s
  | .srst => Sys2Proof.Machine.execSrst s
  | .push sample => Sys2Proof.Machine.execPush sample s
  | .proc stamp => Sys2Proof.Machine.execProc stamp s
  | .anlz => Sys2Proof.Machine.execAnlz s
  | .regr sel => Sys2Proof.Machine.execRegr sel s
  | .winr sel idx => Sys2Proof.Machine.execWinr sel idx s
  | .evtr sel => Sys2Proof.Machine.execEvtr sel s

end Sys2Proof.Machine
end

