-- ==== Sys2Proof/Machine/Issue.lean ====
section
/-! DEFINITION. What the sequencer does with what reaches its input ports (spec 20 R60, R61; 30 R83; 70 R270). -/

namespace Sys2Proof.Machine

/-- One command on the CMD and DATA ports: a word that matches no row raises ERR_ILLEGAL before any other check (R83),
and any other is executed to its response (R61). -/
def issue (cmd : CmdWord) (data : Word) (s : State) : Host.Outcome State Fault Refusal :=
  match decode cmd data with
  | .error _ => .next (s.raise .errIllegal 0#64)
  | .ok i => exec i s

/-- What the next act at the ports does. With none, the core holds its state (R259, R281). -/
def act (s : State) : Host.Outcome State Fault Refusal :=
  match s.host with
  | [] => .next s
  | .rst :: rest => .next { s with host := rest }.hardReset
  | .command cmd data :: rest => issue cmd data { s with host := rest }

/-- The state with one more act in front of those waiting at the ports. -/
def State.before (a : HostAct) (s : State) : State := { s with host := a :: s.host }

end Sys2Proof.Machine
end

