-- ==== Sys2Proof/Machine/Step.lean ====
section
/-! DEFINITION. One step of the machine: one atomic command, one reset, or nothing (spec 20 R67, R69; 00 R11). -/

namespace Sys2Proof.Machine

/-- One step (R69): the core takes the next act at its input ports and completes it. -/
def step (s : State) : Host.Outcome State Fault Refusal := act s

/-- The state with the instruction of `decodeTableWord` as the very next command on the CMD and DATA ports. -/
def State.withFetchWord (s : State) (nbits w : Nat) : State :=
  s.before (.command (tableCmd nbits w) (tableData nbits w))

end Sys2Proof.Machine
end

