-- ==== Sys2Proof/Machine/Assembler.lean ====
section
/-! DEFINITION. The textual syntax of R86 and the pseudo-commands of R87 (spec 30 sections 4): what commands a line
of text stands for. It is the host's notation; the core never sees text. Lexical points the spec leaves open are
assumption 13. -/

namespace Sys2Proof.Machine

/-- A piece of text. -/
abbrev Text := List Char

/-- A blank. -/
def isBlank (c : Char) : Bool := c == ' ' || c == '\t'

/-- The text without blanks at its ends. -/
def trimText (t : Text) : Text := ((t.dropWhile isBlank).reverse.dropWhile isBlank).reverse

/-- The line without its comment, in lower case: operand names are case-insensitive (R86). -/
def lineText (t : Text) : Text := trimText ((t.takeWhile (· != ';')).map Char.toLower)

/-- The parts of a text between commas, commas inside square brackets not counted. `cur` is the part so far, reversed. -/
def splitCommas : Bool → Text → Text → List Text
  | _, cur, [] => [trimText cur.reverse]
  | inside, cur, c :: rest =>
    if c == ',' && !inside then trimText cur.reverse :: splitCommas false [] rest
    else splitCommas (if c == '[' then true else if c == ']' then false else inside) (c :: cur) rest

/-- The operands of a command: none for an empty text. -/
def operandsOf (t : Text) : List Text := if trimText t = [] then [] else splitCommas false [] t

/-- The value of a digit of a base up to 16. -/
def digitValue (base : Nat) (c : Char) : Option Nat :=
  let v := if c.isDigit then c.toNat - 48 else if 'a' ≤ c ∧ c ≤ 'f' then c.toNat - 87 else 16
  if v < base then some v else none

/-- The number a non-empty run of digits denotes, continuing from `acc`. -/
def digitsFrom (base acc : Nat) : Text → Option Nat
  | [] => some acc
  | c :: rest => (digitValue base c).bind fun d => digitsFrom base (base * acc + d) rest

/-- The number a non-empty run of digits denotes. -/
def digitsValue (base : Nat) (t : Text) : Option Nat := if t = [] then none else digitsFrom base 0 t

/-- An integer: decimal, or hexadecimal after 0x. -/
def integerOf : Text → Option Nat
  | '0' :: 'x' :: t => digitsValue 16 t
  | t => digitsValue 10 t

/-- The parts of a text before and after the first character c. -/
def splitAtChar (c : Char) (t : Text) : Text × Text := (t.takeWhile (· != c), (t.dropWhile (· != c)).drop 1)

/-- The decimal exponent of a literal, empty meaning 0: whether it is negative, and its magnitude. -/
def exponentOf : Text → Option (Bool × Nat)
  | [] => some (false, 0)
  | '-' :: t => (digitsValue 10 t).map fun n => (true, n)
  | '+' :: t => (digitsValue 10 t).map fun n => (false, n)
  | t => (digitsValue 10 t).map fun n => (false, n)

/-- The binary64 value nearest to an unsigned decimal literal with optional point and exponent (R86). -/
def unsignedDecimal (t : Text) : Option F64 :=
  let me := splitAtChar 'e' t
  let wf := splitAtChar '.' me.1
  (digitsValue 10 (wf.1 ++ wf.2)).bind fun m =>
    (if t.contains 'e' && me.2.isEmpty then none else exponentOf me.2).map fun x =>
      if x.1 then F64.ratio m (10 ^ wf.2.length * 10 ^ x.2) else F64.ratio (m * 10 ^ x.2) (10 ^ wf.2.length)

/-- An f64 literal (R86): a decimal number, or 0x and 16 hexadecimal digits denoting a bit pattern. -/
def f64Literal : Text → Option F64
  | '0' :: 'x' :: t => if t.length = 16 then (digitsValue 16 t).map (BitVec.ofNat 64) else none
  | '-' :: t => (unsignedDecimal t).map F64.neg
  | '+' :: t => unsignedDecimal t
  | t => unsignedDecimal t

/-- A selector: a name of the space, or an address below the size of the space (R86). -/
def selectorOf (names : List Text) (t : Text) : Option (BitVec 8) :=
  match names.idxOf? t with
  | some k => some (BitVec.ofNat 8 k)
  | none => (integerOf t).bind fun k => if k < names.length then some (BitVec.ofNat 8 k) else none

/-- The names of the configuration registers, by index (R20). -/
def cfgNames : List Text :=
  ["sample_rate".toList, "chunk_size".toList, "target_freq".toList, "freq_tol".toList, "amb_learn_time".toList,
    "sustain_time".toList, "latch_time".toList, "min_ratio".toList, "occ_thresh".toList]

/-- The names of the status registers, by address (R63). -/
def statusNames : List Text :=
  ["status".toList, "fill".toList, "start_time".toList, "last_time".toList, "amb_level".toList, "amb_count".toList,
    "last_alarm_time".toList, "win_count".toList, "fe_peak_mag".toList, "fe_peak_freq".toList,
    "fe_background".toList, "fe_mean_all".toList, "ident".toList]

/-- The names of the window fields (R86). -/
def windowNames : List Text := ["ts".toList, "strong".toList, "freq".toList, "ratio".toList, "mag".toList]

/-- The names of the event registers (R86). -/
def eventNames : List Text :=
  ["ts".toList, "freq".toList, "strength".toList, "conf".toList, "type".toList, "occ".toList, "window".toList]

/-- The value operand of CFGW (R86): an integer for SAMPLE_RATE and CHUNK_SIZE, an f64 literal otherwise. -/
def cfgValue (sel : BitVec 8) (t : Text) : Option Word :=
  if sel.toNat ≤ 1 then (integerOf t).bind fun n => if n < 2 ^ 64 then some (BitVec.ofNat 64 n) else none
  else f64Literal t

/-- `CFGW <cfg>, <value>`. -/
def cfgwOf (reg value : Text) : Option Instr :=
  (selectorOf cfgNames reg).bind fun sel => (cfgValue sel value).map fun v => .cfgw sel v

/-- `PROC <f64>` or `PROC WALL`. -/
def procOf (t : Text) : Option Instr :=
  if t = "wall".toList then some (.proc .wall) else (f64Literal t).map fun v => .proc (.given v)

/-- `CHUNK v0, ..., vM-1` (R87): one PUSH a value. -/
def chunkCommands (l : List F64) : List Instr := l.map .push

/-- `CHUNKP n, [p0, ..., pm-1]` (R87): the n samples p[i mod m]. -/
def periodicChunk (n : Nat) (p : List F64) : List Instr :=
  (List.range n).map fun i => .push (p.getD (i % p.length) (F64.zero false))

/-- `CHUNKZ n` (R87). -/
def zeroChunk (n : Nat) : List Instr := periodicChunk n [F64.zero false]

/-- `FEED n, [p0, ..., pm-1], t` (R87). -/
def feedCommands (n : Nat) (p : List F64) (t : F64) : List Instr := periodicChunk n p ++ [.proc (.given t)]

/-- The values of a bracketed, non-empty pattern. -/
def patternOf : Text → Option (List F64)
  | '[' :: t =>
    if t.getLast? = some ']' then
      match operandsOf t.dropLast with
      | [] => none
      | p :: l => (p :: l).mapM f64Literal
    else none
  | _ => none

/-- One assignment name=value of `CONFIG` (R87). -/
def configOf (t : Text) : Option Instr :=
  let nv := splitAtChar '=' t
  cfgwOf (trimText nv.1) (trimText nv.2)

/-- The commands of one line (R86, R87), none where the text is no line of the syntax. -/
def assembleLine (line : Text) : Option (List Instr) :=
  let t := lineText line
  let m := t.takeWhile (fun c => !isBlank c)
  let ops := operandsOf (t.drop m.length)
  if m = [] then some []
  else if m = "chunk".toList then (if ops = [] then none else (ops.mapM f64Literal).map chunkCommands)
  else if m = "config".toList then (if ops = [] then none else ops.mapM configOf)
  else
    match ops with
    | [] =>
      if m = "nop".toList then some [.nop]
      else if m = "init".toList then some [.init]
      else if m = "srst".toList then some [.srst]
      else if m = "anlz".toList then some [.anlz]
      else none
    | [a] =>
      if m = "cfgr".toList then (selectorOf cfgNames a).map fun k => [.cfgr k]
      else if m = "push".toList then (f64Literal a).map fun x => [.push x]
      else if m = "proc".toList then (procOf a).map fun i => [i]
      else if m = "regr".toList then (selectorOf statusNames a).map fun k => [.regr k]
      else if m = "evtr".toList then (selectorOf eventNames a).map fun k => [.evtr k]
      else if m = "chunkz".toList then (integerOf a).map zeroChunk
      else none
    | [a, b] =>
      if m = "cfgw".toList then (cfgwOf a b).map fun i => [i]
      else if m = "winr".toList then
        (selectorOf windowNames a).bind fun k =>
          (integerOf b).bind fun j => if j < 2 ^ 16 then some [.winr k (BitVec.ofNat 16 j)] else none
      else if m = "chunkp".toList then (integerOf a).bind fun n => (patternOf b).map (periodicChunk n)
      else none
    | [a, b, c] =>
      if m = "feed".toList then
        (integerOf a).bind fun n => (patternOf b).bind fun p => (f64Literal c).map (feedCommands n p)
      else none
    | _ => none

/-- The commands of a text given line by line (R86), as the acts the host then issues: each encoded. -/
def assemble (lines : List Text) : Option (List HostAct) :=
  (lines.mapM assembleLine).map fun l => l.flatten.map fun i => .command (encode i).1 (encode i).2

end Sys2Proof.Machine
end

