-- ==== Sys2Proof/Machine/Reference.lean ====
section
/-! DEFINITION. The exact real numbers the spec measures arithmetic and SPECMAG against (spec 00 R10; 42 R131, R132).
The machine does not compute with them; claims do. -/

namespace Sys2Proof

/-- The value of a finite binary64 pattern. -/
def F64.toRat (a : F64) : ℚ := (a.signedUnits : ℚ) / 2 ^ 1074

/-- The value of a finite binary64 pattern as a real number. -/
noncomputable def F64.toReal (a : F64) : ℝ := (a.toRat : ℝ)

/-- The least magnitude that round-to-nearest-ties-to-even sends to infinity: halfway between the greatest finite
value and 2^1024. -/
def F64.overflowBound : ℚ := 2 ^ 1024 - 2 ^ 970

/-- v is the real number r correctly rounded with round-to-nearest-ties-to-even (R10): no finite value is nearer to r,
a value equally near means that v is the one with an even pattern, the sign is r's where r is not zero, and a
magnitude from `overflowBound` on gives the infinity. -/
def F64.RoundsTo (r : ℝ) (v : F64) : Prop :=
  (r < 0 → v.sign = true) ∧ (0 < r → v.sign = false) ∧
  ((F64.overflowBound : ℝ) ≤ |r| → v.isInf = true) ∧
  (|r| < (F64.overflowBound : ℝ) → v.isFinite = true ∧
    ∀ y : F64, y.isFinite = true →
      |v.toReal - r| ≤ |y.toReal - r| ∧
      (|y.toReal - r| = |v.toReal - r| → y.toReal = v.toReal ∨ v.toNat % 2 = 0))

/-- w_n, the weights of the two Hann windows as exact real numbers (R131). -/
noncomputable def hannWeight (v : HannVariant) (N n : Nat) : ℝ :=
  if N = 1 then 1
  else
    match v with
    | .symmetric => 0.5 - 0.5 * Real.cos (2 * Real.pi * n / ((N : ℝ) - 1))
    | .periodic => 0.5 - 0.5 * Real.cos (2 * Real.pi * n / N)

/-- M*[k], the exact magnitude of bin k of the windowed samples x, with no normalisation factor (R132). -/
noncomputable def refMagnitude (v : HannVariant) (x : List F64) (k : Nat) : ℝ :=
  ‖∑ n ∈ Finset.range x.length, (((x.getD n (F64.zero false)).toReal * hannWeight v x.length n : ℝ) : ℂ) *
    Complex.exp (-(2 * Real.pi * k * n / x.length : ℝ) * Complex.I)‖

/-- SPECMAG is accurate on the chunk x (R132 item 4): each of its bins is within 1e-9 × (1 + Σ|x_n|) of the exact
magnitude. The source does not bound the error, so this is no property of the machine; it is the premise of a test vector
about the finite chunk x (93 I1), and a claim that needs it takes it for the chunks it speaks of. It cannot hold of every
finite chunk: where the exact magnitude exceeds the greatest finite value, item 2 forbids it. -/
def SpecmagAccurate (x : List F64) : Prop :=
  ∀ k, k ≤ x.length / 2 →
    |(specmag x k).toReal - refMagnitude Config.hannVariant x k| ≤ 1e-9 * (1 + (x.map fun v => |v.toReal|).sum)

end Sys2Proof
end

