-- ==== Sys2Proof/Safety.lean ====
section
/-! DEFINITION. What the claims about the machine are stated in: its registers without the ports, runs of several
commands, and the invariants of spec 10 R45 and R36. -/

namespace Sys2Proof.Machine

/-- The registers of the core alone: the response port and the model's own fields are left out. -/
def State.registers (s : State) : State := { s with resp := none, host := [], wallDraws := 0, nanDraws := 0 }

/-- The result code is an error (R240): 0x80 to 0x87 are. -/
def isErrorCode (r : U8) : Bool := decide (0x80 ≤ r.toNat)

/-- The RESULT codes of R240. -/
def resultCodes : List U8 :=
  [0x00#8, 0x01#8, 0x80#8, 0x81#8, 0x82#8, 0x83#8, 0x84#8, 0x85#8, 0x86#8, 0x87#8]

/-- What an error with this code leaves (R245): LAST_ERR and the response, and nothing else. -/
def State.raisedWith (s : State) (code : U8) (info : Word) : State :=
  { s with lastErr := code, resp := some ⟨code, info, false⟩ }

/-- What the result OK with this data leaves (R61): the response, and nothing else. -/
def State.answered (s : State) (data : Word) : State := { s with resp := some ⟨0x00#8, data, false⟩ }

/-- A PROC at time t passes validation (R162, R164): the instance exists, the chunk has the right length, and t is
finite and not below LAST_TIME. -/
structure State.Accepts (s : State) (t : F64) : Prop where
  configured : s.configured = true
  fill : s.fill = s.chunkLen
  ovf : s.ovf = false
  finite : t.isFinite = true
  ordered : s.started = true → F64.ge t s.lastTime = true

/-- The latch is in force at time t (R31). -/
def State.InForce (s : State) (t : F64) : Prop :=
  s.latch = true ∧ F64.lt (F64.sub .pure t s.lastAlarmTime) s.cfg.latchTime = true

/-- An accepted chunk at time t is a learning chunk (R169): its elapsed time is below AMB_LEARN_TIME, START_TIME being t
itself for the first PROC (R166). -/
def State.Learns (s : State) (t : F64) : Prop :=
  s.learn = true ∧
    F64.lt (F64.sub .pure t (if s.started then s.startTime else t)) s.cfg.ambLearnTime = true

/-- The ring buffer after an accepted chunk at time t is classified (R172 to R175). -/
def State.windowsAfter (s : State) (t : F64) : List Window :=
  appendWindow s.windows (classify s.cfg (.draw s.nanDraws) s.ambLevel t (frontend s.cfg s.inBuf))

/-- The commands one after another, each from the state the one before left (R69). -/
def runCommands : List Instr → State → Host.Outcome State Fault Refusal
  | [], s => .next s
  | i :: rest, s =>
    match exec i s with
    | .next t => runCommands rest t
    | .fault r => .fault r
    | .refused r => .refused r

/-- The nine CFGW commands that write these configuration values. -/
def configureCommands (c : CfgRegs) : List Instr :=
  [.cfgw 0#8 c.sampleRate, .cfgw 1#8 c.chunkSize, .cfgw 2#8 c.targetFreq, .cfgw 3#8 c.freqTol,
    .cfgw 4#8 c.ambLearnTime, .cfgw 5#8 c.sustainTime, .cfgw 6#8 c.latchTime, .cfgw 7#8 c.minRatio,
    .cfgw 8#8 c.occThresh]

/-- What holds between commands (R22, R36, R45 items 1 to 7), with the fact that learning ends only in a started
instance. R45 item 8 stands apart (`State.Counted`): it fails where AMB_COUNT wraps (assumption 17). -/
structure State.Inv (s : State) : Prop where
  /-- Item 1: without an instance, everything INIT clears holds its reset value. -/
  cleared : s.configured = false → s.clearInstance = s
  /-- R22: while configured, INIT has found the configuration registers legal. -/
  legal : s.configured = true → s.cfg.check = 0#64
  /-- Item 2. -/
  fillBound : s.configured = true → s.fill ≤ s.chunkLen
  /-- Item 3, first half. -/
  winBound : s.winCount ≤ 100
  /-- Item 4, with the second half of item 3. -/
  learning : s.learn = true → s.latch = false ∧ s.hasAlarm = false ∧ s.windows = []
  /-- Item 5. -/
  latched : s.latch = true → s.hasAlarm = true ∧ s.evtValid = true
  /-- Item 6. -/
  times : s.started = true →
    s.startTime.isFinite = true ∧ s.lastTime.isFinite = true ∧ F64.le s.startTime s.lastTime = true
  /-- Learning ends only in an accepted PROC, which starts the instance (R166, R169). -/
  learned : s.learn = false → s.started = true
  /-- Item 7. -/
  windowTimes : ∀ w ∈ s.windows, F64.le w.ts s.lastTime = true
  /-- R36: timestamps do not decrease along the ring buffer. -/
  windowOrder : s.windows.Pairwise fun a b => F64.le a.ts b.ts = true

/-- R45 item 8, in the form a step keeps: a started instance has counted a learning chunk. -/
def State.Counted (s : State) : Prop := s.started = true → s.ambCount ≠ 0#64

/-- A strong window has its frequency in the target band (R198 item 6) and its ratio above MIN_RATIO (R173). -/
def State.StrongSound (s : State) : Prop :=
  ∀ w ∈ s.windows, w.strong = true → s.cfg.inBand w.freq = true ∧ F64.gt w.ratio s.cfg.minRatio = true

/-- What the event registers hold (R38, R39, R204, R205): one event, that of the most recent detection, or none. -/
structure State.EventSound (s : State) : Prop where
  valid : s.evtValid = s.hasAlarm
  held : s.evtValid = true → s.evt.type = 1#64 ∧ s.evt.ts = s.lastAlarmTime ∧ s.evt.window = s.cfg.sustainTime
  absent : s.evtValid = false → s.evt = EventRegs.reset ∧ s.lastAlarmTime = 0#64

/-- LAST_ERR is 0 or an error code (R40), LAST_PATH 0 or a path code (R41, R161). -/
structure State.CodesSound (s : State) : Prop where
  err : s.lastErr = 0#8 ∨ (s.lastErr ∈ resultCodes ∧ isErrorCode s.lastErr = true)
  path : s.lastPath.toNat ≤ 4
  started : s.lastPath ≠ 0#8 ↔ s.started = true

end Sys2Proof.Machine
end

