-- ==== Sys2Proof/WellFormed.lean ====
section
/-! DEFINITION. Which commands the textual syntax of R86 can spell: those whose selector names an entry of its space
(spec 20 R63). Every field already has the width of its encoding, so a command that fails a check here still encodes,
decodes and runs: it raises ERR_BAD_SELECT (R83, R242). -/

namespace Sys2Proof

/-- The selector names an entry of the command's space (R20, R63, R86): configuration 0 to 8, status 0x00 to 0x0C,
window field 0 to 4, event 0 to 6. A window index is checked against WIN_COUNT when WINR runs (R222). -/
def Instr.wellFormed : Instr → Bool
  | .nop => true
  | .cfgw sel _ => decide (sel.toNat ≤ 8)
  | .cfgr sel => decide (sel.toNat ≤ 8)
  | .init => true
  | .srst => true
  | .push _ => true
  | .proc _ => true
  | .anlz => true
  | .regr sel => decide (sel.toNat ≤ 0x0C)
  | .winr sel _ => decide (sel.toNat ≤ 4)
  | .evtr sel => decide (sel.toNat ≤ 6)

end Sys2Proof
end

