-- ==== Sys2Proof/Certificates/Slice0/Obligations.lean ====
section
/-! DEFINITION. The statements about the core, for the provers. -/

open Sys2Proof Sys2Proof.Machine

/-! ## Reset, the step, encoding -/

/-- R270, R48: the reset input loads every reset value and drives no response. That reset is one act among those waiting
at the ports, and that the acts after it stay, is the model's own (assumptions 1 and 10). -/
def Obligations.ResetInputLoadsResetValues : Prop :=
  ∀ (s : State) (rest : List HostAct), s.host = .rst :: rest →
    ∃ t, step s = .next t ∧ t.resp = none ∧ t.host = rest ∧
      t.cfg = ⟨44100#64, 4096#64, 0x40A9000000000000#64, 0x4079000000000000#64, 0x4024000000000000#64,
        0x4010000000000000#64, 0x4072C00000000000#64, 0x4052C00000000000#64, 0x3FD0000000000000#64⟩ ∧
      t.configured = false ∧ t.startTime = 0#64 ∧ t.started = false ∧ t.lastTime = 0#64 ∧
      t.ambLevel = 0#64 ∧ t.ambCount = 0#64 ∧ t.learn = true ∧ t.lastAlarmTime = 0#64 ∧
      t.hasAlarm = false ∧ t.latch = false ∧ t.fill = 0 ∧ t.ovf = false ∧ t.winCount = 0 ∧
      t.fe = ⟨0#64, 0#64, 0#64, 0#64, false⟩ ∧ t.feValid = false ∧
      t.evt = ⟨0#64, 0#64, 0#64, 0#64, 0#64, 0#64, 0#64⟩ ∧ t.evtValid = false ∧
      t.lastErr = 0#8 ∧ t.lastPath = 0#8 ∧ t.registers = State.reset.registers

/-- R61, R69, R83: a step takes the next command at the ports and runs what it decodes to; an illegal word raises
ERR_ILLEGAL; with nothing at the ports the core holds its state (R259, assumptions 1 and 15). A word placed by
`withFetchWord` is the very next command (assumption 14). -/
def Obligations.StepRunsTheNextCommand : Prop :=
  ∀ s : State,
    (s.host = [] → step s = .next s) ∧
    (∀ w d rest i, s.host = .command w d :: rest → decode w d = .ok i → step s = exec i { s with host := rest }) ∧
    (∀ w d rest e, s.host = .command w d :: rest → decode w d = .error e →
      step s = .next ({ s with host := rest }.raisedWith 0x80#8 0#64)) ∧
    (∀ nbits w i, decodeTableWord nbits w = some i → step (s.withFetchWord nbits w) = exec i s)

/-- R88: the encoding examples, from text to command and operand words, and the illegal words. -/
def Obligations.EncodingExamplesOfR88 : Prop :=
  assemble ["CFGW CHUNK_SIZE, 64".toList] = some [.command 0x01010000#32 0x0000000000000040#64] ∧
  assemble ["CFGW TARGET_FREQ, 16.0".toList] = some [.command 0x01020000#32 0x4030000000000000#64] ∧
  assemble ["CFGW OCC_THRESH, 0.25".toList] = some [.command 0x01080000#32 0x3FD0000000000000#64] ∧
  assemble ["PUSH -1.0".toList] = some [.command 0x10000000#32 0xBFF0000000000000#64] ∧
  assemble ["PROC 9.0".toList] = some [.command 0x11010000#32 0x4022000000000000#64] ∧
  assemble ["PROC WALL".toList] = some [.command 0x11000000#32 0x0000000000000000#64] ∧
  assemble ["REGR AMB_LEVEL".toList] = some [.command 0x20040000#32 0#64] ∧
  assemble ["WINR TS, 99".toList] = some [.command 0x21000063#32 0#64] ∧
  assemble ["EVTR CONF".toList] = some [.command 0x22030000#32 0#64] ∧
  ∀ (s : State) (d : Word) (w : CmdWord), w ∈ [0x11030000#32, 0x20000001#32, 0x05000000#32] →
    issue w d s = .next (s.raisedWith 0x80#8 0#64)

/-- R81, R82, R84: a word of each of the eleven commands, written out from the opcode map, decodes to what it stands
for, and an illegal word to the item of R84 it breaks. -/
def Obligations.CommandWordsDecode : Prop :=
  decode 0x00000000#32 0#64 = .ok .nop ∧
  decode 0x01080000#32 0x3FD0000000000000#64 = .ok (.cfgw 8#8 0x3FD0000000000000#64) ∧
  decode 0x02FF0000#32 0#64 = .ok (.cfgr 255#8) ∧
  decode 0x03000000#32 0#64 = .ok .init ∧
  decode 0x04000000#32 0#64 = .ok .srst ∧
  decode 0x10000000#32 0xBFF0000000000000#64 = .ok (.push 0xBFF0000000000000#64) ∧
  decode 0x11010000#32 0x4022000000000000#64 = .ok (.proc (.given 0x4022000000000000#64)) ∧
  decode 0x11000000#32 0x4022000000000000#64 = .ok (.proc .wall) ∧
  decode 0x12000000#32 0#64 = .ok .anlz ∧
  decode 0x200C0000#32 0#64 = .ok (.regr 0x0C#8) ∧
  decode 0x21000063#32 0#64 = .ok (.winr 0#8 99#16) ∧
  decode 0x22030000#32 0#64 = .ok (.evtr 3#8) ∧
  decode 0x00010000#32 0#64 = .error (.mustBeZero 0#8) ∧
  decode 0xFF000000#32 0#64 = .error (.reservedOpcode 0xFF#8)

/-- R82, R83: every command decodes from its encoding, operands and all. -/
def Obligations.DecodeOfEncode : Prop :=
  ∀ i : Instr, decode (encode i).1 (encode i).2 = .ok i

/-- R81, R83: the encoding of a decoded command is the word it was decoded from, and the DATA word too, unless the
command ignores DATA. -/
def Obligations.EncodeOfDecode : Prop :=
  ∀ (w : CmdWord) (d : Word) (i : Instr), decode w d = .ok i →
    (encode i).1 = w ∧ ((encode i).2 = d ∨ ∀ d', decode w d' = .ok i)

/-- R83: a word selects at most one row; it decodes exactly when it selects one; a word that selects none raises
ERR_ILLEGAL in every state; a selector out of range decodes and raises ERR_BAD_SELECT. -/
def Obligations.DecodingSelectsOneRow : Prop :=
  ∀ (w : CmdWord) (d : Word),
    (∀ r ∈ opcodeMap, ∀ r' ∈ opcodeMap, r.selects w = true → r'.selects w = true → r = r') ∧
    ((∃ i, decode w d = .ok i) ↔ ∃ r ∈ opcodeMap, w &&& r.mask = r.pattern) ∧
    ((∀ r ∈ opcodeMap, w &&& r.mask ≠ r.pattern) → ∀ s : State, issue w d s = .next (s.raisedWith 0x80#8 0#64)) ∧
    (∀ i, decode w d = .ok i → i.wellFormed = false → ∀ s : State, issue w d s = .next (s.raisedWith 0x81#8 0#64))

/-! ## Control and configuration commands -/

/-- R100: NOP answers OK and 0 and changes nothing else. -/
def Obligations.NopChangesNothing : Prop :=
  ∀ s : State, exec .nop s = .next (s.answered 0#64)

/-- R101, R242: CFGW stores the 64 bits unchanged while unconfigured; a selector above 8 and an existing instance are
the errors, in that order; nothing else changes. -/
def Obligations.CfgwStoresOrRefuses : Prop :=
  ∀ (s : State) (sel : BitVec 8) (v : Word),
    (8 < sel.toNat → exec (.cfgw sel v) s = .next (s.raisedWith 0x81#8 0#64)) ∧
    (sel.toNat ≤ 8 → s.configured = true → exec (.cfgw sel v) s = .next (s.raisedWith 0x83#8 0#64)) ∧
    (s.configured = false →
      exec (.cfgw 0#8 v) s = .next ({ s with cfg := { s.cfg with sampleRate := v } }.answered 0#64) ∧
      exec (.cfgw 1#8 v) s = .next ({ s with cfg := { s.cfg with chunkSize := v } }.answered 0#64) ∧
      exec (.cfgw 2#8 v) s = .next ({ s with cfg := { s.cfg with targetFreq := v } }.answered 0#64) ∧
      exec (.cfgw 3#8 v) s = .next ({ s with cfg := { s.cfg with freqTol := v } }.answered 0#64) ∧
      exec (.cfgw 4#8 v) s = .next ({ s with cfg := { s.cfg with ambLearnTime := v } }.answered 0#64) ∧
      exec (.cfgw 5#8 v) s = .next ({ s with cfg := { s.cfg with sustainTime := v } }.answered 0#64) ∧
      exec (.cfgw 6#8 v) s = .next ({ s with cfg := { s.cfg with latchTime := v } }.answered 0#64) ∧
      exec (.cfgw 7#8 v) s = .next ({ s with cfg := { s.cfg with minRatio := v } }.answered 0#64) ∧
      exec (.cfgw 8#8 v) s = .next ({ s with cfg := { s.cfg with occThresh := v } }.answered 0#64))

/-- R103: CFGR returns the stored 64 bits of configuration register 0 to 8, in every mode, and writes nothing. -/
def Obligations.CfgrReturnsStoredBits : Prop :=
  ∀ s : State,
    exec (.cfgr 0#8) s = .next (s.answered s.cfg.sampleRate) ∧
    exec (.cfgr 1#8) s = .next (s.answered s.cfg.chunkSize) ∧
    exec (.cfgr 2#8) s = .next (s.answered s.cfg.targetFreq) ∧
    exec (.cfgr 3#8) s = .next (s.answered s.cfg.freqTol) ∧
    exec (.cfgr 4#8) s = .next (s.answered s.cfg.ambLearnTime) ∧
    exec (.cfgr 5#8) s = .next (s.answered s.cfg.sustainTime) ∧
    exec (.cfgr 6#8) s = .next (s.answered s.cfg.latchTime) ∧
    exec (.cfgr 7#8) s = .next (s.answered s.cfg.minRatio) ∧
    exec (.cfgr 8#8) s = .next (s.answered s.cfg.occThresh) ∧
    ∀ sel : BitVec 8, 8 < sel.toNat → exec (.cfgr sel) s = .next (s.raisedWith 0x81#8 0#64)

/-- R105, R107: INIT builds the clean instance when the configuration is legal, and otherwise raises its errors. -/
def Obligations.InitBuildsCleanInstance : Prop :=
  ∀ s : State,
    (s.configured = true → exec .init s = .next (s.raisedWith 0x83#8 0#64)) ∧
    (s.configured = false → s.cfg.check ≠ 0#64 → exec .init s = .next (s.raisedWith 0x84#8 s.cfg.check)) ∧
    (s.configured = false → s.cfg.check = 0#64 →
      exec .init s = .next ({ s with
        configured := true, startTime := 0#64, started := false, lastTime := 0#64, ambLevel := 0#64,
        ambCount := 0#64, learn := true, lastAlarmTime := 0#64, hasAlarm := false, latch := false,
        inBuf := [], ovf := false, windows := [], fe := ⟨0#64, 0#64, 0#64, 0#64, false⟩, feValid := false,
        evt := ⟨0#64, 0#64, 0#64, 0#64, 0#64, 0#64, 0#64⟩, evtValid := false, lastPath := 0#8 }.answered 0#64))

/-- R106: each bit of the mask INIT reports, with the bounds of CHUNK_MAX (R7). -/
def Obligations.ConfigCheckMask : Prop :=
  (4096 ≤ Config.chunkMax ∧ Config.chunkMax ≤ 2 ^ 32 - 1) ∧
  ∀ c : CfgRegs,
    (c.check.getLsbD 0 = false ↔ 1 ≤ c.sampleRate.toNat ∧ c.sampleRate.toNat ≤ 2 ^ 32 - 1) ∧
    (c.check.getLsbD 1 = false ↔ 1 ≤ c.chunkSize.toNat ∧ c.chunkSize.toNat ≤ Config.chunkMax) ∧
    (c.check.getLsbD 2 = false ↔ c.targetFreq.isFinite = true ∧ F64.gt c.targetFreq 0#64 = true) ∧
    (c.check.getLsbD 3 = false ↔ c.freqTol.isFinite = true ∧ F64.gt c.freqTol 0#64 = true) ∧
    (c.check.getLsbD 4 = false ↔ c.ambLearnTime.isFinite = true ∧ F64.gt c.ambLearnTime 0#64 = true) ∧
    (c.check.getLsbD 5 = false ↔ c.sustainTime.isFinite = true ∧ F64.gt c.sustainTime 0#64 = true) ∧
    (c.check.getLsbD 6 = false ↔ c.latchTime.isFinite = true ∧ F64.gt c.latchTime 0#64 = true) ∧
    (c.check.getLsbD 7 = false ↔ c.minRatio.isFinite = true ∧ F64.gt c.minRatio 0#64 = true) ∧
    (c.check.getLsbD 8 = false ↔ F64.gt c.occThresh 0#64 = true ∧ F64.lt c.occThresh 0x3FF0000000000000#64 = true) ∧
    (∀ k, 9 ≤ k → c.check.getLsbD k = false)

/-- R109, R271: SRST clears the instance in every mode and keeps the configuration registers and LAST_ERR. -/
def Obligations.SrstEndsInstance : Prop :=
  ∀ s : State, exec .srst s = .next ({ s with
    configured := false, startTime := 0#64, started := false, lastTime := 0#64, ambLevel := 0#64,
    ambCount := 0#64, learn := true, lastAlarmTime := 0#64, hasAlarm := false, latch := false,
    inBuf := [], ovf := false, windows := [], fe := ⟨0#64, 0#64, 0#64, 0#64, false⟩, feValid := false,
    evt := ⟨0#64, 0#64, 0#64, 0#64, 0#64, 0#64, 0#64⟩, evtValid := false, lastPath := 0#8 }.answered 0#64)

/-- R271, last sentence: SRST and INIT give the state that reset, the same CFGW writes and INIT give; only LAST_ERR,
which SRST and INIT keep, may differ. -/
def Obligations.SrstThenInitIsFreshInstance : Prop :=
  ∀ s : State, s.cfg.check = 0#64 →
    ∃ t u, runCommands [.srst, .init] s = .next t ∧
      runCommands (configureCommands s.cfg ++ [.init]) State.reset = .next u ∧
      t.registers = { u.registers with lastErr := s.lastErr } ∧ t.configured = true ∧ t.mode = .learning

/-! ## Sample input -/

/-- R120, R122: PUSH appends any 64-bit pattern; its errors, in order. -/
def Obligations.PushAppendsOrRefuses : Prop :=
  ∀ (s : State) (x : F64),
    (s.configured = false → exec (.push x) s = .next (s.raisedWith 0x82#8 0#64)) ∧
    (s.configured = true → s.fill = s.chunkLen →
      exec (.push x) s = .next ({ s with ovf := true }.raisedWith 0x85#8 0#64)) ∧
    (s.configured = true → s.fill ≠ s.chunkLen →
      exec (.push x) s = .next ({ s with inBuf := s.inBuf ++ [x] }.answered 0#64))

/-- R120, R123: as many PUSH commands as the buffer has room for deliver the samples in the order pushed, and change
nothing else but the response. -/
def Obligations.PushesDeliverChunkInOrder : Prop :=
  ∀ (xs : List F64) (s : State), s.configured = true → s.fill + xs.length ≤ s.chunkLen →
    ∃ t, runCommands (xs.map .push) s = .next t ∧ t = { s with inBuf := s.inBuf ++ xs, resp := t.resp }

/-! ## Spectral Frontend -/

/-- R140: ANLZ runs the frontend on the chunk and writes the frontend result registers; its errors, in order. -/
def Obligations.AnlzRunsFrontend : Prop :=
  ∀ s : State,
    (s.configured = false → exec .anlz s = .next (s.raisedWith 0x82#8 0#64)) ∧
    (s.configured = true → (s.fill ≠ s.chunkLen ∨ s.ovf = true) →
      exec .anlz s = .next ({ s with inBuf := [], ovf := false }.raisedWith 0x86#8 0#64)) ∧
    (s.configured = true → s.fill = s.chunkLen → s.ovf = false →
      exec .anlz s = .next ({ s with
        inBuf := [], ovf := false, fe := frontend s.cfg s.inBuf, feValid := true }.answered 0#64))

/-- R132 items 2 and 3: for finite samples every magnitude is finite with sign bit 0, and for samples that are all
zeros every magnitude is +0.0. -/
def Obligations.SpecmagMeetsItsProperties : Prop :=
  ∀ (x : List F64) (k : Nat),
    ((∀ v ∈ x, v.isFinite = true) → (specmag x k).isFinite = true ∧ (specmag x k).sign = false) ∧
    ((∀ v ∈ x, v.isZero = true) → specmag x k = 0#64)

/-- R136, R139: without a target bin the peak is the sentinel; otherwise it is the lowest-index maximum. Over every list
of bins: if the first magnitude is a NaN, the first bin stays the peak; otherwise the peak's magnitude is no NaN, every
bin before it has a lower magnitude or a NaN, and no bin after it has a greater one. -/
def Obligations.PeakIsLowestIndexMaximum : Prop :=
  (∀ (c : CfgRegs) (x : List F64),
    (targetBins c (chunkBins c x) = [] →
      (frontend c x).peakMag = 0#64 ∧ (frontend c x).peakFreq = 0#64 ∧ (frontend c x).empty = true) ∧
    (∀ b l, targetBins c (chunkBins c x) = b :: l →
      (frontend c x).peakMag = (peakFrom b l).mag ∧ (frontend c x).peakFreq = (peakFrom b l).freq ∧
      (frontend c x).empty = false)) ∧
  (∀ (b : Bin) (l : List Bin), ∃ pre post, b :: l = pre ++ peakFrom b l :: post ∧
    (b.mag.isNaN = true → pre = []) ∧
    (b.mag.isNaN = false → (peakFrom b l).mag.isNaN = false ∧
      ∀ q ∈ pre, q.mag.isNaN = true ∨ F64.lt q.mag (peakFrom b l).mag = true) ∧
    (∀ q ∈ post, F64.gt q.mag (peakFrom b l).mag = false))

/-- R47, R130, R133 to R135, R137, R142: the bins are k = 0 to ⌊N/2⌋ at f64(k) × (f64(fs) ÷ f64(N)), the target bins
those in the closed band; FE_MEAN_ALL is the mean of all magnitudes; FE_BACKGROUND is the mean over the other bins alone,
and 0.1 × FE_MEAN_ALL when there are none. With no bin in the band the result is the sentinel, its background the mean of
all bins, bit for bit. -/
def Obligations.EmptyBandGivesSentinel : Prop :=
  ∀ (c : CfgRegs) (x : List F64) (freq : Nat → F64) (bins target others : List Nat),
    (∀ k, freq k = F64.mul .pure (F64.ofNat k)
      (F64.div .pure (F64.ofNat c.sampleRate.toNat) (F64.ofNat c.chunkSize.toNat))) →
    bins = List.range (c.chunkSize.toNat / 2 + 1) →
    target = bins.filter (fun k => F64.le (F64.sub .pure c.targetFreq c.freqTol) (freq k) &&
      F64.le (freq k) (F64.add .pure c.targetFreq c.freqTol)) →
    others = bins.filter (fun k => !(F64.le (F64.sub .pure c.targetFreq c.freqTol) (freq k) &&
      F64.le (freq k) (F64.add .pure c.targetFreq c.freqTol))) →
    targetBins c (chunkBins c x) = target.map (fun k => ⟨freq k, specmag x k⟩) ∧
    (frontend c x).meanAll = F64.div .pure (F64.sum (bins.map (specmag x))) (F64.ofNat bins.length) ∧
    (others ≠ [] → (frontend c x).background =
      F64.div .pure (F64.sum (others.map (specmag x))) (F64.ofNat others.length)) ∧
    (others = [] → (frontend c x).background = F64.mul .pure 0x3FB999999999999A#64 (frontend c x).meanAll) ∧
    (target = [] →
      frontend c x = ⟨0#64, 0#64, (frontend c x).meanAll, (frontend c x).meanAll, true⟩)

/-- R132 item 3, R135 to R137, R243: a silent chunk has peak magnitude, background and mean +0.0, whatever the
configuration. -/
def Obligations.SilentChunkHasZeroResult : Prop :=
  ∀ (c : CfgRegs) (x : List F64), (∀ v ∈ x, v.isZero = true) →
    (frontend c x).peakMag = 0#64 ∧ (frontend c x).background = 0#64 ∧ (frontend c x).meanAll = 0#64

/-- R131, last sentence: the symmetric window is 0 at both ends; the periodic window is 0 at the first sample and
positive at the last. -/
def Obligations.HannWindowEnds : Prop :=
  ∀ N : Nat, 2 ≤ N →
    hannWeight .symmetric N 0 = 0 ∧ hannWeight .symmetric N (N - 1) = 0 ∧
    hannWeight .periodic N 0 = 0 ∧ 0 < hannWeight .periodic N (N - 1)

/-! ## PROC -/

/-- R162 to R165, R242: what PROC rejects, in order, and all that a rejection changes. A WALLCLK draw is made only
after the length test, and its count is the model's own (assumption 3). -/
def Obligations.ProcRejectsInOrder : Prop :=
  ∀ (s : State) (st : Stamp),
    (s.configured = false → exec (.proc st) s = .next (s.raisedWith 0x82#8 0#64)) ∧
    (s.configured = true → (s.fill ≠ s.chunkLen ∨ s.ovf = true) →
      exec (.proc st) s = .next ({ s with inBuf := [], ovf := false }.raisedWith 0x86#8 0#64)) ∧
    (s.configured = true → s.fill = s.chunkLen → s.ovf = false →
      ((s.stampTime st).isFinite = false ∨ (s.started = true ∧ F64.ge (s.stampTime st) s.lastTime = false)) →
      exec (.proc st) s = .next ({ s.afterStamp st with inBuf := [], ovf := false }.raisedWith 0x87#8 0#64))

/-- R166, R167, R161: a PROC at a time when the latch is in force takes path 1, whatever the samples are. Besides the
registers named, PROC WALL moves the model's own count of WALLCLK draws (assumption 3). -/
def Obligations.ProcSuppressedByLatch : Prop :=
  ∀ (s : State) (st : Stamp), s.Accepts (s.stampTime st) → s.InForce (s.stampTime st) →
    exec (.proc st) s = .next { s.afterStamp st with
      inBuf := [], ovf := false, startTime := if s.started then s.startTime else s.stampTime st, started := true,
      lastTime := s.stampTime st, lastPath := 1#8, resp := some ⟨0x00#8, 1#64, false⟩ }

/-- R166 to R171: a learning chunk takes path 2 and updates AMB_COUNT and AMB_LEVEL. The counts of WALLCLK draws and of
NaN sites are the model's own (assumptions 3 and 4). -/
def Obligations.ProcLearnsAmbient : Prop :=
  ∀ (s : State) (st : Stamp), s.Accepts (s.stampTime st) → ¬ s.InForce (s.stampTime st) →
    s.Learns (s.stampTime st) →
    exec (.proc st) s = .next { s.afterStamp st with
      inBuf := [], ovf := false, startTime := if s.started then s.startTime else s.stampTime st, started := true,
      lastTime := s.stampTime st, latch := false, fe := frontend s.cfg s.inBuf, feValid := true,
      ambCount := s.ambCount + 1#64,
      ambLevel := F64.add (.draw s.nanDraws) s.ambLevel (F64.div (.draw s.nanDraws)
        (F64.sub (.draw s.nanDraws) (frontend s.cfg s.inBuf).background s.ambLevel)
        (F64.ofNat (s.ambCount + 1#64).toNat)),
      nanDraws := s.nanDraws + 1, lastPath := 2#8, resp := some ⟨0x00#8, 2#64, false⟩ }

/-- R166 to R176: a classified chunk appends its window, and without a detection takes path 3. The counts of WALLCLK
draws and of NaN sites are the model's own (assumptions 3 and 4). -/
def Obligations.ProcClassifiesWithoutDetection : Prop :=
  ∀ (s : State) (st : Stamp), s.Accepts (s.stampTime st) → ¬ s.InForce (s.stampTime st) →
    ¬ s.Learns (s.stampTime st) →
    sustained s.cfg (s.windowsAfter (s.stampTime st)) (s.stampTime st) = none →
    exec (.proc st) s = .next { s.afterStamp st with
      inBuf := [], ovf := false, startTime := if s.started then s.startTime else s.stampTime st, started := true,
      lastTime := s.stampTime st, latch := false, fe := frontend s.cfg s.inBuf, feValid := true, learn := false,
      windows := s.windowsAfter (s.stampTime st), nanDraws := s.nanDraws + 1, lastPath := 3#8,
      resp := some ⟨0x00#8, 3#64, false⟩ }

/-- R166 to R176, R202, R204, R205: a classified chunk on which the sustained analysis detects takes path 4, sets the
latch, and writes the event. The counts of WALLCLK draws and of NaN sites are the model's own (assumptions 3 and 4). -/
def Obligations.ProcDetects : Prop :=
  ∀ (s : State) (st : Stamp) (d : Detection), s.Accepts (s.stampTime st) → ¬ s.InForce (s.stampTime st) →
    ¬ s.Learns (s.stampTime st) →
    sustained s.cfg (s.windowsAfter (s.stampTime st)) (s.stampTime st) = some d →
    exec (.proc st) s = .next { s.afterStamp st with
      inBuf := [], ovf := false, startTime := if s.started then s.startTime else s.stampTime st, started := true,
      lastTime := s.stampTime st, fe := frontend s.cfg s.inBuf, feValid := true, learn := false,
      windows := s.windowsAfter (s.stampTime st), nanDraws := s.nanDraws + 1,
      lastAlarmTime := s.stampTime st, hasAlarm := true, latch := true,
      evt := ⟨s.stampTime st, d.avgFreq, d.avgRatio,
        F64.min 0x3FF0000000000000#64 (F64.mul .pure d.occ 0x4000000000000000#64), 1#64, d.occ, s.cfg.sustainTime⟩,
      evtValid := true, lastPath := 4#8, resp := some ⟨0x01#8, 4#64, true⟩ }

/-- R163, R255: PROC WALL on a chunk of the right length is PROC t for the t that WALLCLK gives, and counts the
draw (the model's own counter, assumption 3). -/
def Obligations.ProcWallUsesTheDraw : Prop :=
  ∀ s : State, s.configured = true → s.fill = s.chunkLen → s.ovf = false →
    exec (.proc .wall) s =
      exec (.proc (.given (Config.wallclk s.wallDraws))) { s with wallDraws := s.wallDraws + 1 }

/-- R172 to R175: the classification of a window: three strict comparisons, with the ratios guarded by 1e-10. -/
def Obligations.ClassificationRecordsTheChunk : Prop :=
  ∀ (c : CfgRegs) (site : NanSite) (level t : F64) (r : FrontendResult),
    classify c site level t r = ⟨t,
      F64.gt (F64.div site r.peakMag (F64.add site level 0x3DDB7CDFD9D7BDBB#64)) c.minRatio &&
      F64.gt (F64.div site r.peakMag (F64.add site r.background 0x3DDB7CDFD9D7BDBB#64)) 0x4020000000000000#64 &&
      F64.gt r.peakMag (F64.mul site 0x4028000000000000#64 r.meanAll),
      r.peakFreq, F64.div site r.peakMag (F64.add site level 0x3DDB7CDFD9D7BDBB#64), r.peakMag⟩

/-- R35, R34: appending to the ring buffer: a full one drops WIN[0] and moves every other window down one index. -/
def Obligations.RingBufferAppends : Prop :=
  ∀ (l : List Window) (w : Window), l.length ≤ 100 →
    (appendWindow l w).length ≤ 100 ∧ (appendWindow l w).getLast? = some w ∧
    (l.length = 100 → (appendWindow l w).length = 100 ∧ ∀ j, j < 99 → (appendWindow l w)[j]? = l[j + 1]?) ∧
    (l.length < 100 → (appendWindow l w).length = l.length + 1 ∧ ∀ j, j < l.length → (appendWindow l w)[j]? = l[j]?)

/-- R170, D11: the first update gives the first background exactly, and an update with the level itself leaves it:
for a finite background other than −0.0, which a sum of non-negative magnitudes never is. -/
def Obligations.RunningMeanIsExact : Prop :=
  ∀ (site : NanSite) (b : F64) (n : U64), b.isFinite = true → b ≠ 0x8000000000000000#64 →
    runningMean site 0#64 b 1#64 = b ∧ (n ≠ 0#64 → runningMean site b b n = b)

/-! ## Sustained analysis -/

/-- R198 item 4: a detection on a ring buffer of at most 100 windows has at least 5 and at most 80 strong windows and
at least 7 recent ones. -/
def Obligations.DetectionNeedsFiveOfSeven : Prop :=
  ∀ (c : CfgRegs) (l : List Window) (t : F64) (d : Detection), l.length ≤ 100 → sustained c l t = some d →
    5 ≤ ((l.filter (Window.recent c t)).filter Window.strong).length ∧
    ((l.filter (Window.recent c t)).filter Window.strong).length ≤ 80 ∧
    7 ≤ (l.filter (Window.recent c t)).length

/-- R200: if every recent window is strong, occ is 1.0 and no detection fires. -/
def Obligations.AllStrongNeverDetects : Prop :=
  ∀ (c : CfgRegs) (l : List Window) (t : F64), l.length ≤ 100 →
    (∀ w ∈ l, Window.recent c t w = true → w.strong = true) →
    (l.filter (Window.recent c t) ≠ [] →
      F64.div .pure (F64.ofNat ((l.filter (Window.recent c t)).filter Window.strong).length)
        (F64.ofNat (l.filter (Window.recent c t)).length) = 0x3FF0000000000000#64) ∧
    sustained c l t = none

/-- R201: with OCC_THRESH above 0.80 the analysis never detects, so no PROC does, and INIT does not diagnose such a
value below 1.0. -/
def Obligations.HighThresholdNeverDetects : Prop :=
  ∀ c : CfgRegs, F64.gt c.occThresh 0x3FE999999999999A#64 = true →
    (∀ (l : List Window) (t : F64), sustained c l t = none) ∧
    (∀ (s t : State) (st : Stamp) (r : Response), s.cfg = c → exec (.proc st) s = .next t → t.resp = some r →
      r.result ≠ 0x01#8) ∧
    (F64.lt c.occThresh 0x3FF0000000000000#64 = true → c.check.getLsbD 8 = false)

/-- R203: a detection has 0.20 ≤ occ ≤ 0.80; its confidence is 2 × occ below one half and 1.0 from there on, so it lies
in [0.4, 1.0]. -/
def Obligations.ConfidenceRange : Prop :=
  ∀ (c : CfgRegs) (l : List Window) (t : F64) (d : Detection), sustained c l t = some d →
    (F64.le 0x3FC999999999999A#64 d.occ = true ∧ F64.le d.occ 0x3FE999999999999A#64 = true) ∧
    (F64.lt d.occ 0x3FE0000000000000#64 = true →
      (eventOf c t d).conf = F64.mul .pure d.occ 0x4000000000000000#64) ∧
    (F64.ge d.occ 0x3FE0000000000000#64 = true → (eventOf c t d).conf = 0x3FF0000000000000#64) ∧
    F64.le 0x3FD999999999999A#64 (eventOf c t d).conf = true ∧
    F64.le (eventOf c t d).conf 0x3FF0000000000000#64 = true

/-- R190 to R197: the sustained analysis. First the decision predicate, (a) to (h), with every literal as its bit pattern;
(d) and (f) together accept exactly 0.2 < ssv < 1.2. Then, with at least 5 windows, 3 recent and 2 strong ones, the
analysis answers (occ, avgF, avgR) exactly when the predicate holds of occ, the means, the population deviation of the
frequencies and ssv, and none otherwise. -/
def Obligations.DecisionPredicate : Prop :=
  (∀ (c : CfgRegs) (occ avgFreq freqStd avgRatio ssv : F64) (n : Nat),
    (decideDetection c occ avgFreq freqStd avgRatio ssv n = true ↔
      F64.ge occ c.occThresh = true ∧
      (F64.le 0x3FC999999999999A#64 occ = true ∧ F64.le occ 0x3FE999999999999A#64 = true) ∧
      F64.gt avgRatio c.minRatio = true ∧
      (F64.le 0x3FB999999999999A#64 ssv = true ∧ F64.le ssv 0x4000000000000000#64 = true) ∧
      ((F64.lt 0x4024000000000000#64 freqStd = true ∧ F64.lt freqStd 0x4059000000000000#64 = true) ∨
        (F64.le freqStd 0x4024000000000000#64 = true ∧ F64.gt avgRatio 0x407F400000000000#64 = true)) ∧
      (F64.lt 0x3FC999999999999A#64 ssv = true ∧ F64.lt ssv 0x3FF3333333333333#64 = true) ∧
      (F64.le (F64.sub .pure c.targetFreq c.freqTol) avgFreq = true ∧
        F64.le avgFreq (F64.add .pure c.targetFreq c.freqTol) = true) ∧
      5 ≤ n) ∧
    ((F64.le 0x3FB999999999999A#64 ssv = true ∧ F64.le ssv 0x4000000000000000#64 = true) ∧
        (F64.lt 0x3FC999999999999A#64 ssv = true ∧ F64.lt ssv 0x3FF3333333333333#64 = true) ↔
      F64.lt 0x3FC999999999999A#64 ssv = true ∧ F64.lt ssv 0x3FF3333333333333#64 = true)) ∧
  (∀ (c : CfgRegs) (l recent strong : List Window) (t n occ avgF freqStd avgR ratioStd ssv : F64),
    recent = l.filter (fun w => F64.le (F64.sub .pure t w.ts) c.sustainTime) →
    strong = recent.filter (fun w => w.strong) →
    n = F64.ofNat strong.length →
    occ = F64.div .pure n (F64.ofNat recent.length) →
    avgF = F64.div .pure (F64.sum (strong.map fun w => w.freq)) n →
    freqStd = F64.sqrt .pure (F64.div .pure (F64.sum (strong.map fun w =>
      F64.mul .pure (F64.sub .pure w.freq avgF) (F64.sub .pure w.freq avgF))) n) →
    avgR = F64.div .pure (F64.sum (strong.map fun w => w.ratio)) n →
    ratioStd = F64.sqrt .pure (F64.div .pure (F64.sum (strong.map fun w =>
      F64.mul .pure (F64.sub .pure w.ratio avgR) (F64.sub .pure w.ratio avgR))) n) →
    ssv = F64.div .pure ratioStd (F64.add .pure avgR 0x3DDB7CDFD9D7BDBB#64) →
    (l.length < 5 ∨ recent.length < 3 ∨ strong.length < 2 → sustained c l t = none) ∧
    (5 ≤ l.length → 3 ≤ recent.length → 2 ≤ strong.length →
      sustained c l t =
        if decideDetection c occ avgF freqStd avgR ssv strong.length = true then some ⟨occ, avgF, avgR⟩ else none))

/-! ## Read-back -/

/-- R220, R63: REGR returns each register of the status space and writes nothing. -/
def Obligations.RegrReadsStatusSpace : Prop :=
  ∀ s : State,
    exec (.regr 0x00#8) s = .next (s.answered s.status) ∧
    exec (.regr 0x01#8) s = .next (s.answered (BitVec.ofNat 64 s.inBuf.length)) ∧
    exec (.regr 0x02#8) s = .next (s.answered s.startTime) ∧
    exec (.regr 0x03#8) s = .next (s.answered s.lastTime) ∧
    exec (.regr 0x04#8) s = .next (s.answered s.ambLevel) ∧
    exec (.regr 0x05#8) s = .next (s.answered s.ambCount) ∧
    exec (.regr 0x06#8) s = .next (s.answered s.lastAlarmTime) ∧
    exec (.regr 0x07#8) s = .next (s.answered (BitVec.ofNat 64 s.windows.length)) ∧
    exec (.regr 0x08#8) s = .next (s.answered s.fe.peakMag) ∧
    exec (.regr 0x09#8) s = .next (s.answered s.fe.peakFreq) ∧
    exec (.regr 0x0A#8) s = .next (s.answered s.fe.background) ∧
    exec (.regr 0x0B#8) s = .next (s.answered s.fe.meanAll) ∧
    exec (.regr 0x0C#8) s = .next (s.answered 0x5344440000070001#64) ∧
    ∀ sel : BitVec 8, 0x0C < sel.toNat → exec (.regr sel) s = .next (s.raisedWith 0x81#8 0#64)

/-- R24, R44: every field of STATUS, and the derived mode. -/
def Obligations.StatusFields : Prop :=
  ∀ s : State,
    s.status.extractLsb' 0 2 =
      (if s.configured = false then 0#2 else if s.learn = true then 1#2 else if s.latch = true then 3#2 else 2#2) ∧
    s.status.getLsbD 2 = s.learn ∧ s.status.getLsbD 3 = s.latch ∧ s.status.getLsbD 4 = s.started ∧
    s.status.getLsbD 5 = s.hasAlarm ∧ s.status.getLsbD 6 = s.ovf ∧ s.status.getLsbD 7 = s.feValid ∧
    s.status.getLsbD 8 = s.fe.empty ∧ s.status.getLsbD 9 = s.evtValid ∧ s.status.extractLsb' 10 6 = 0#6 ∧
    s.status.extractLsb' 16 8 = s.lastErr ∧ s.status.extractLsb' 24 8 = s.lastPath ∧
    s.status.extractLsb' 32 32 = 0#32

/-- R222: WINR returns a field of the window at a logical index and writes nothing; a field above 4 or an index that
is not below WIN_COUNT raises ERR_BAD_SELECT. -/
def Obligations.WinrReadsWindows : Prop :=
  ∀ (s : State) (idx : BitVec 16),
    (∀ w, s.windows[idx.toNat]? = some w →
      exec (.winr 0#8 idx) s = .next (s.answered w.ts) ∧
      exec (.winr 1#8 idx) s = .next (s.answered (if w.strong then 1#64 else 0#64)) ∧
      exec (.winr 2#8 idx) s = .next (s.answered w.freq) ∧
      exec (.winr 3#8 idx) s = .next (s.answered w.ratio) ∧
      exec (.winr 4#8 idx) s = .next (s.answered w.mag)) ∧
    (∀ sel : BitVec 8, (4 < sel.toNat ∨ s.windows.length ≤ idx.toNat) →
      exec (.winr sel idx) s = .next (s.raisedWith 0x81#8 0#64))

/-- R224: EVTR returns an event register, consumes nothing, and writes nothing. -/
def Obligations.EvtrReadsEventRegisters : Prop :=
  ∀ s : State,
    exec (.evtr 0#8) s = .next (s.answered s.evt.ts) ∧
    exec (.evtr 1#8) s = .next (s.answered s.evt.freq) ∧
    exec (.evtr 2#8) s = .next (s.answered s.evt.strength) ∧
    exec (.evtr 3#8) s = .next (s.answered s.evt.conf) ∧
    exec (.evtr 4#8) s = .next (s.answered s.evt.type) ∧
    exec (.evtr 5#8) s = .next (s.answered s.evt.occ) ∧
    exec (.evtr 6#8) s = .next (s.answered s.evt.window) ∧
    ∀ sel : BitVec 8, 6 < sel.toNat → exec (.evtr sel) s = .next (s.raisedWith 0x81#8 0#64)

/-! ## The whole machine -/

/-- R282, R240, R281: every command ends with a next state and one response, whose code is one of R240; every step
ends with a next state. -/
def Obligations.EveryCommandResponds : Prop :=
  (∀ (i : Instr) (s : State), ∃ t r, exec i s = .next t ∧ t.resp = some r ∧ r.result ∈ resultCodes) ∧
  (∀ s : State, ∃ t, step s = .next t)

/-- R245, R40: a command word that ends in an error, an illegal one too, drives EVT 0 and RDATA 0 (the mask for
ERR_CONFIG_INVALID), writes its code to LAST_ERR, and changes besides only OVF (ERR_BUF_FULL) or the input buffer,
which it empties (ERR_WRONG_LENGTH, ERR_TIMESTAMP); the model's count of WALLCLK draws apart (assumption 3). One that
raises no error leaves LAST_ERR. -/
def Obligations.ErrorsArePrecise : Prop :=
  ∀ (w : CmdWord) (d : Word) (s t : State) (r : Response), issue w d s = .next t → t.resp = some r →
    (isErrorCode r.result = false → t.lastErr = s.lastErr) ∧
    (isErrorCode r.result = true →
      r.evt = false ∧ t.lastErr = r.result ∧
      r.rdata = (if r.result = 0x84#8 then s.cfg.check else 0#64) ∧
      t = { s with lastErr := r.result, resp := some r, inBuf := t.inBuf, ovf := t.ovf, wallDraws := t.wallDraws } ∧
      (r.result = 0x85#8 → t.inBuf = s.inBuf ∧ t.ovf = true) ∧
      (r.result = 0x86#8 ∨ r.result = 0x87#8 → t.inBuf = [] ∧ t.ovf = false) ∧
      (r.result ≠ 0x85#8 → r.result ≠ 0x86#8 → r.result ≠ 0x87#8 → t.inBuf = s.inBuf ∧ t.ovf = s.ovf))

/-- R252, R161: EVT is 1 exactly in the response of a PROC whose code is EVENT, whose path code is then 4, and 0 in
every other response, an illegal word's too; a PROC that passes validation returns the path code it records, and with
the result OK that is 1, 2 or 3. -/
def Obligations.EvtStrobeAndPathCodes : Prop :=
  (∀ (w : CmdWord) (d : Word) (s t : State) (r : Response), issue w d s = .next t → t.resp = some r →
    (r.evt = true ↔ r.result = 0x01#8) ∧
    (r.result = 0x01#8 → (∃ st, decode w d = .ok (.proc st)) ∧ r.rdata = 4#64)) ∧
  (∀ (st : Stamp) (s t : State) (r : Response), exec (.proc st) s = .next t → t.resp = some r →
    isErrorCode r.result = false →
      r.rdata = t.lastPath.setWidth 64 ∧
      (r.result = 0x00#8 → t.lastPath = 1#8 ∨ t.lastPath = 2#8 ∨ t.lastPath = 3#8))

/-- R39, R204, R206: only a PROC with the result EVENT, INIT and SRST change the event registers or LAST_ALARM_TIME,
and only such a PROC sets the latch. -/
def Obligations.OnlyDetectionWritesEvent : Prop :=
  ∀ (i : Instr) (s t : State), exec i s = .next t →
    (t.evt ≠ s.evt ∨ t.lastAlarmTime ≠ s.lastAlarmTime ∨ t.evtValid ≠ s.evtValid ∨ t.hasAlarm ≠ s.hasAlarm →
      i = .init ∨ i = .srst ∨ t.resp = some ⟨0x01#8, 4#64, true⟩) ∧
    (s.latch = false → t.latch = true → t.resp = some ⟨0x01#8, 4#64, true⟩)

/-- R22, R108: while an instance exists CFGW and INIT are refused, and no command changes the configuration registers;
at any time only CFGW does. -/
def Obligations.ConfigurationIsConstant : Prop :=
  (∀ (s : State) (sel : BitVec 8) (v : Word), s.configured = true → sel.toNat ≤ 8 →
    exec (.cfgw sel v) s = .next (s.raisedWith 0x83#8 0#64) ∧ exec .init s = .next (s.raisedWith 0x83#8 0#64)) ∧
  (∀ (i : Instr) (s t : State), exec i s = .next t → s.configured = true → t.cfg = s.cfg) ∧
  (∀ (i : Instr) (s t : State), exec i s = .next t → t.cfg ≠ s.cfg → ∃ sel v, i = .cfgw sel v)

/-- R26 to R28: START_TIME is written once; LEARN goes from 1 to 0 only in a PROC whose elapsed time is not below
AMB_LEARN_TIME, and back to 1 only by INIT or SRST; AMB_LEVEL and AMB_COUNT are then written no more. -/
def Obligations.LearningEndsOnce : Prop :=
  ∀ (i : Instr) (s t : State), exec i s = .next t →
    (s.started = true → t.started = true → t.startTime = s.startTime) ∧
    (s.learn = true → t.learn = false →
      (∃ st, i = .proc st) ∧ F64.lt (F64.sub .pure t.lastTime t.startTime) t.cfg.ambLearnTime = false) ∧
    (s.learn = false → t.learn = true → i = .init ∨ i = .srst) ∧
    (s.learn = false → i ≠ .init → i ≠ .srst → t.ambLevel = s.ambLevel ∧ t.ambCount = s.ambCount)

/-- R66, R240: a command raises ERR_BAD_SELECT exactly when its selector names no entry of its space, or its window
index no window held. -/
def Obligations.BadSelectExactly : Prop :=
  ∀ (i : Instr) (s t : State) (r : Response), exec i s = .next t → t.resp = some r →
    (r.result = 0x81#8 ↔ i.wellFormed = false ∨ ∃ sel idx, i = .winr sel idx ∧ s.winCount ≤ idx.toNat)

/-- R178: the mode transitions an accepted PROC makes, and those of INIT and SRST. -/
def Obligations.ModeTransitions : Prop :=
  ∀ s : State, s.Inv →
    (∀ st t, s.Accepts (s.stampTime st) → exec (.proc st) s = .next t →
      (s.mode = .learning → s.Learns (s.stampTime st) → t.mode = .learning) ∧
      (s.mode = .learning → ¬ s.Learns (s.stampTime st) → t.mode = .active) ∧
      (s.mode = .active → t.resp = some ⟨0x01#8, 4#64, true⟩ → t.mode = .latched) ∧
      (s.mode = .active → t.resp ≠ some ⟨0x01#8, 4#64, true⟩ → t.mode = .active) ∧
      (s.mode = .latched → s.InForce (s.stampTime st) → t.mode = .latched) ∧
      (s.mode = .latched → ¬ s.InForce (s.stampTime st) →
        t.mode = if t.resp = some ⟨0x01#8, 4#64, true⟩ then .latched else .active)) ∧
    (∀ t, exec .init s = .next t → s.mode = .unconfigured → s.cfg.check = 0#64 → t.mode = .learning) ∧
    (∀ t, exec .srst s = .next t → t.mode = .unconfigured)

/-- R179, R207: after a detection, whatever commands follow, SRST and reset aside, as long as every PROC carries a
timestamp at which the latch is in force, no event is emitted, no window is appended, and the latch and the event
stay. -/
def Obligations.NoEventWhileLatched : Prop :=
  ∀ (s u : State) (cmds : List Instr), s.Inv → s.latch = true → .srst ∉ cmds → .proc .wall ∉ cmds →
    (∀ t, .proc (.given t) ∈ cmds → F64.lt (F64.sub .pure t s.lastAlarmTime) s.cfg.latchTime = true) →
    runCommands cmds s = .next u →
    u.latch = true ∧ u.lastAlarmTime = s.lastAlarmTime ∧ u.evt = s.evt ∧ u.windows = s.windows ∧
      (cmds ≠ [] → ∃ r, u.resp = some r ∧ r.evt = false ∧ r.result ≠ 0x01#8)

/-! ## Invariants -/

/-- R22, R36, R45 items 1 to 7: every step keeps the invariant. -/
def Obligations.InvariantKeptByEveryStep : Prop :=
  ∀ s t : State, s.Inv → step s = .next t → t.Inv

/-- R45, R48: the invariant, and those beside it, hold after reset. -/
def Obligations.InvariantHoldsAtReset : Prop :=
  State.reset.Inv ∧ State.reset.Counted ∧ State.reset.StrongSound ∧ State.reset.EventSound ∧ State.reset.CodesSound

/-- R45 item 8: a started instance has counted a learning chunk, so one that no longer learns has; every step keeps it
but a learning chunk at which AMB_COUNT wraps (R27, assumption 17). -/
def Obligations.LearningIsCounted : Prop :=
  (∀ s t : State, s.Inv → s.Counted → s.ambCount ≠ 0xFFFFFFFFFFFFFFFF#64 → step s = .next t → t.Counted) ∧
  (∀ s : State, s.Inv → s.Counted → s.configured = true → s.learn = false → 1 ≤ s.ambCount.toNat)

/-- R198 item 6, R142, R173: every step keeps every strong window's frequency in the target band and its ratio above
MIN_RATIO. -/
def Obligations.StrongWindowsStayInBand : Prop :=
  ∀ s t : State, s.Inv → s.StrongSound → step s = .next t → t.StrongSound

/-- R38 to R41, R205: every step keeps what the event registers, LAST_ERR and LAST_PATH may hold. -/
def Obligations.EventAndCodesStaySound : Prop :=
  ∀ s t : State, s.Inv → step s = .next t →
    (s.EventSound → t.EventSound) ∧ (s.CodesSound → t.CodesSound)

/-! ## Arithmetic -/

/-- R10: `+` and `−` on finite values are correctly rounded (IEEE 754, assumption 11). -/
def Obligations.SumsAreCorrectlyRounded : Prop :=
  ∀ (site : NanSite) (a b : F64), a.isFinite = true → b.isFinite = true →
    F64.RoundsTo (a.toReal + b.toReal) (F64.add site a b) ∧ F64.RoundsTo (a.toReal - b.toReal) (F64.sub site a b)

/-- R10: `×` and `÷` on finite values, the divisor not zero, are correctly rounded (IEEE 754, assumption 11). -/
def Obligations.ProductsAreCorrectlyRounded : Prop :=
  ∀ (site : NanSite) (a b : F64), a.isFinite = true → b.isFinite = true →
    F64.RoundsTo (a.toReal * b.toReal) (F64.mul site a b) ∧
    (b.isZero = false → F64.RoundsTo (a.toReal / b.toReal) (F64.div site a b))

/-- R10, R195: `sqrt` of a finite value that is not negative, −0.0 among them, is correctly rounded (IEEE 754,
assumption 11). -/
def Obligations.RootsAreCorrectlyRounded : Prop :=
  ∀ (site : NanSite) (a : F64), a.isFinite = true → (a.sign = false ∨ a.isZero = true) →
    F64.RoundsTo (Real.sqrt a.toReal) (F64.sqrt site a)

/-- R10: integers and decimal literals convert to the nearest binary64 value (IEEE 754, assumption 11). -/
def Obligations.ConversionsAreCorrectlyRounded : Prop :=
  (∀ n : Nat, F64.RoundsTo (n : ℝ) (F64.ofNat n)) ∧
  (∀ p q : Nat, q ≠ 0 → F64.RoundsTo ((p : ℝ) / (q : ℝ)) (F64.ratio p q))

/-- R10: NaN operands give a NaN, as do the invalid operations; division of a non-zero finite value by zero gives an
infinity, and the infinities otherwise compute as limits; products and quotients have the exclusive or of the signs;
comparisons with a NaN are false; a finite value minus itself is +0.0; the root of a zero is that zero (IEEE 754,
assumption 11). -/
def Obligations.SpecialOperands : Prop :=
  ∀ (site : NanSite) (a b : F64),
    (a.isNaN = true ∨ b.isNaN = true →
      (F64.add site a b).isNaN = true ∧ (F64.sub site a b).isNaN = true ∧ (F64.mul site a b).isNaN = true ∧
      (F64.div site a b).isNaN = true ∧ F64.lt a b = false ∧ F64.le a b = false ∧ F64.gt a b = false ∧
      F64.ge a b = false ∧ F64.eq a b = false) ∧
    (a.isNaN = true → (F64.sqrt site a).isNaN = true) ∧
    (a.isNaN = false → a.sign = true → a.isZero = false → (F64.sqrt site a).isNaN = true) ∧
    (a.isZero = true → F64.sqrt site a = a) ∧
    (a.isInf = true → a.sign = false → F64.sqrt site a = a) ∧
    (a.isZero = true → b.isInf = true → (F64.mul site a b).isNaN = true ∧ (F64.mul site b a).isNaN = true) ∧
    (a.isZero = true → b.isZero = true → (F64.div site a b).isNaN = true) ∧
    (a.isInf = true → b.isInf = true → (F64.div site a b).isNaN = true ∧
      (a.sign ≠ b.sign → (F64.add site a b).isNaN = true ∧ F64.sub site a b = a) ∧
      (a.sign = b.sign → (F64.sub site a b).isNaN = true ∧ F64.add site a b = a)) ∧
    (a.isInf = true → b.isFinite = true →
      F64.add site a b = a ∧ F64.add site b a = a ∧ F64.sub site a b = a ∧ F64.sub site b a = a.neg ∧
      (F64.div site a b).isInf = true ∧ (F64.div site b a).isZero = true) ∧
    (a.isInf = true → b.isNaN = false → b.isZero = false →
      (F64.mul site a b).isInf = true ∧ (F64.mul site b a).isInf = true) ∧
    (a.isFinite = true → a.isZero = false → b.isZero = true → (F64.div site a b).isInf = true) ∧
    ((F64.mul site a b).isNaN = false → (F64.mul site a b).sign = (a.sign ^^ b.sign)) ∧
    ((F64.div site a b).isNaN = false → (F64.div site a b).sign = (a.sign ^^ b.sign)) ∧
    (a.isFinite = true → F64.sub site a a = 0#64)

/-- R10: on finite values the comparisons are those of the real numbers, so −0.0 equals +0.0 (assumption 11). -/
def Obligations.ComparisonsAreTheRealOrder : Prop :=
  ∀ a b : F64, a.isFinite = true → b.isFinite = true →
    (F64.lt a b = true ↔ a.toReal < b.toReal) ∧ (F64.le a b = true ↔ a.toReal ≤ b.toReal) ∧
    (F64.eq a b = true ↔ a.toReal = b.toReal)
end

