-- ==== Sys2Proof/Laws/Float.lean ====
section
/-! SUPPORT. The order of binary64 values (spec 00 R10) as the order of their keys. -/

namespace Sys2Proof

theorem F64.lt_iff (a b : F64) : F64.lt a b = true ↔ a.isNaN = false ∧ b.isNaN = false ∧ a.key < b.key := by
  simp [F64.lt, and_assoc]

theorem F64.le_iff (a b : F64) : F64.le a b = true ↔ a.isNaN = false ∧ b.isNaN = false ∧ a.key ≤ b.key := by
  simp [F64.le, and_assoc]

theorem F64.gt_iff (a b : F64) : F64.gt a b = true ↔ b.isNaN = false ∧ a.isNaN = false ∧ b.key < a.key :=
  F64.lt_iff b a

theorem F64.ge_iff (a b : F64) : F64.ge a b = true ↔ b.isNaN = false ∧ a.isNaN = false ∧ b.key ≤ a.key :=
  F64.le_iff b a

/-- A finite value is no NaN. -/
theorem F64.isNaN_of_isFinite {a : F64} (h : a.isFinite = true) : a.isNaN = false := by
  simp_all [F64.isFinite, F64.isNaN]

theorem F64.le_refl {a : F64} (h : a.isNaN = false) : F64.le a a = true := by simp [F64.le_iff, h]

theorem F64.le_trans {a b c : F64} (hab : F64.le a b = true) (hbc : F64.le b c = true) : F64.le a c = true := by
  rw [F64.le_iff] at *
  exact ⟨hab.1, hbc.2.1, hab.2.2.trans hbc.2.2⟩

theorem F64.lt_of_lt_of_le {a b c : F64} (hab : F64.lt a b = true) (hbc : F64.le b c = true) :
    F64.lt a c = true := by
  rw [F64.lt_iff, F64.le_iff] at *
  exact ⟨hab.1, hbc.2.1, hab.2.2.trans_le hbc.2.2⟩

theorem F64.lt_of_le_of_lt {a b c : F64} (hab : F64.le a b = true) (hbc : F64.lt b c = true) :
    F64.lt a c = true := by
  rw [F64.lt_iff, F64.le_iff] at *
  exact ⟨hab.1, hbc.2.1, hab.2.2.trans_lt hbc.2.2⟩

/-- Of two values that are no NaN, exactly one of a < b and b ≤ a holds. -/
theorem F64.lt_eq_not_le {a b : F64} (ha : a.isNaN = false) (hb : b.isNaN = false) :
    F64.lt a b = !F64.le b a := by
  simp only [F64.lt, F64.le, ha, hb, Bool.not_false, Bool.true_and, ← decide_not, not_le]

/-- The thresholds of the detector as bit patterns (R7, R196): the decimals of R8, each rounded once. -/
theorem eps_pattern : F64.ratio 1 10000000000 = 0x3DDB7CDFD9D7BDBB#64 := by decide +kernel

theorem tenth_pattern : F64.ratio 1 10 = 0x3FB999999999999A#64 := by decide +kernel

theorem occupationLow_pattern : F64.ratio 20 100 = 0x3FC999999999999A#64 := by decide +kernel

theorem occupationHigh_pattern : F64.ratio 80 100 = 0x3FE999999999999A#64 := by decide +kernel

theorem variationLow_pattern : F64.ratio 2 10 = 0x3FC999999999999A#64 := by decide +kernel

theorem variationHigh_pattern : F64.ratio 12 10 = 0x3FF3333333333333#64 := by decide +kernel

theorem zero_pattern (neg : Bool) : F64.zero neg = if neg then 0x8000000000000000#64 else 0#64 := by
  cases neg <;> decide +kernel

end Sys2Proof
end

