-- ==== Sys2Proof/Laws/State.lean ====
section
/-! SUPPORT. What each shared operation leaves in each field of the state: one lemma a field, for simp. -/

namespace Sys2Proof.Machine

variable (s : State)

@[simp] theorem State.respond_cfg (c : ResultCode) (d : Word) : (s.respond c d).cfg = s.cfg := rfl
@[simp] theorem State.respond_configured (c : ResultCode) (d : Word) : (s.respond c d).configured = s.configured := rfl
@[simp] theorem State.respond_startTime (c : ResultCode) (d : Word) : (s.respond c d).startTime = s.startTime := rfl
@[simp] theorem State.respond_started (c : ResultCode) (d : Word) : (s.respond c d).started = s.started := rfl
@[simp] theorem State.respond_lastTime (c : ResultCode) (d : Word) : (s.respond c d).lastTime = s.lastTime := rfl
@[simp] theorem State.respond_ambLevel (c : ResultCode) (d : Word) : (s.respond c d).ambLevel = s.ambLevel := rfl
@[simp] theorem State.respond_ambCount (c : ResultCode) (d : Word) : (s.respond c d).ambCount = s.ambCount := rfl
@[simp] theorem State.respond_learn (c : ResultCode) (d : Word) : (s.respond c d).learn = s.learn := rfl
@[simp] theorem State.respond_lastAlarmTime (c : ResultCode) (d : Word) : (s.respond c d).lastAlarmTime = s.lastAlarmTime := rfl
@[simp] theorem State.respond_hasAlarm (c : ResultCode) (d : Word) : (s.respond c d).hasAlarm = s.hasAlarm := rfl
@[simp] theorem State.respond_latch (c : ResultCode) (d : Word) : (s.respond c d).latch = s.latch := rfl
@[simp] theorem State.respond_inBuf (c : ResultCode) (d : Word) : (s.respond c d).inBuf = s.inBuf := rfl
@[simp] theorem State.respond_ovf (c : ResultCode) (d : Word) : (s.respond c d).ovf = s.ovf := rfl
@[simp] theorem State.respond_windows (c : ResultCode) (d : Word) : (s.respond c d).windows = s.windows := rfl
@[simp] theorem State.respond_fe (c : ResultCode) (d : Word) : (s.respond c d).fe = s.fe := rfl
@[simp] theorem State.respond_feValid (c : ResultCode) (d : Word) : (s.respond c d).feValid = s.feValid := rfl
@[simp] theorem State.respond_evt (c : ResultCode) (d : Word) : (s.respond c d).evt = s.evt := rfl
@[simp] theorem State.respond_evtValid (c : ResultCode) (d : Word) : (s.respond c d).evtValid = s.evtValid := rfl
@[simp] theorem State.respond_lastErr (c : ResultCode) (d : Word) : (s.respond c d).lastErr = s.lastErr := rfl
@[simp] theorem State.respond_lastPath (c : ResultCode) (d : Word) : (s.respond c d).lastPath = s.lastPath := rfl
@[simp] theorem State.respond_resp (c : ResultCode) (d : Word) : (s.respond c d).resp = some ⟨c.byte, d, c == .event⟩ := rfl
@[simp] theorem State.respond_host (c : ResultCode) (d : Word) : (s.respond c d).host = s.host := rfl
@[simp] theorem State.respond_wallDraws (c : ResultCode) (d : Word) : (s.respond c d).wallDraws = s.wallDraws := rfl
@[simp] theorem State.respond_nanDraws (c : ResultCode) (d : Word) : (s.respond c d).nanDraws = s.nanDraws := rfl

@[simp] theorem State.raise_cfg (c : ResultCode) (d : Word) : (s.raise c d).cfg = s.cfg := rfl
@[simp] theorem State.raise_configured (c : ResultCode) (d : Word) : (s.raise c d).configured = s.configured := rfl
@[simp] theorem State.raise_startTime (c : ResultCode) (d : Word) : (s.raise c d).startTime = s.startTime := rfl
@[simp] theorem State.raise_started (c : ResultCode) (d : Word) : (s.raise c d).started = s.started := rfl
@[simp] theorem State.raise_lastTime (c : ResultCode) (d : Word) : (s.raise c d).lastTime = s.lastTime := rfl
@[simp] theorem State.raise_ambLevel (c : ResultCode) (d : Word) : (s.raise c d).ambLevel = s.ambLevel := rfl
@[simp] theorem State.raise_ambCount (c : ResultCode) (d : Word) : (s.raise c d).ambCount = s.ambCount := rfl
@[simp] theorem State.raise_learn (c : ResultCode) (d : Word) : (s.raise c d).learn = s.learn := rfl
@[simp] theorem State.raise_lastAlarmTime (c : ResultCode) (d : Word) : (s.raise c d).lastAlarmTime = s.lastAlarmTime := rfl
@[simp] theorem State.raise_hasAlarm (c : ResultCode) (d : Word) : (s.raise c d).hasAlarm = s.hasAlarm := rfl
@[simp] theorem State.raise_latch (c : ResultCode) (d : Word) : (s.raise c d).latch = s.latch := rfl
@[simp] theorem State.raise_inBuf (c : ResultCode) (d : Word) : (s.raise c d).inBuf = s.inBuf := rfl
@[simp] theorem State.raise_ovf (c : ResultCode) (d : Word) : (s.raise c d).ovf = s.ovf := rfl
@[simp] theorem State.raise_windows (c : ResultCode) (d : Word) : (s.raise c d).windows = s.windows := rfl
@[simp] theorem State.raise_fe (c : ResultCode) (d : Word) : (s.raise c d).fe = s.fe := rfl
@[simp] theorem State.raise_feValid (c : ResultCode) (d : Word) : (s.raise c d).feValid = s.feValid := rfl
@[simp] theorem State.raise_evt (c : ResultCode) (d : Word) : (s.raise c d).evt = s.evt := rfl
@[simp] theorem State.raise_evtValid (c : ResultCode) (d : Word) : (s.raise c d).evtValid = s.evtValid := rfl
@[simp] theorem State.raise_lastErr (c : ResultCode) (d : Word) : (s.raise c d).lastErr = c.byte := rfl
@[simp] theorem State.raise_lastPath (c : ResultCode) (d : Word) : (s.raise c d).lastPath = s.lastPath := rfl
@[simp] theorem State.raise_resp (c : ResultCode) (d : Word) : (s.raise c d).resp = some ⟨c.byte, d, false⟩ := rfl
@[simp] theorem State.raise_host (c : ResultCode) (d : Word) : (s.raise c d).host = s.host := rfl
@[simp] theorem State.raise_wallDraws (c : ResultCode) (d : Word) : (s.raise c d).wallDraws = s.wallDraws := rfl
@[simp] theorem State.raise_nanDraws (c : ResultCode) (d : Word) : (s.raise c d).nanDraws = s.nanDraws := rfl

@[simp] theorem State.emptyBuffer_cfg : (s.emptyBuffer).cfg = s.cfg := rfl
@[simp] theorem State.emptyBuffer_configured : (s.emptyBuffer).configured = s.configured := rfl
@[simp] theorem State.emptyBuffer_startTime : (s.emptyBuffer).startTime = s.startTime := rfl
@[simp] theorem State.emptyBuffer_started : (s.emptyBuffer).started = s.started := rfl
@[simp] theorem State.emptyBuffer_lastTime : (s.emptyBuffer).lastTime = s.lastTime := rfl
@[simp] theorem State.emptyBuffer_ambLevel : (s.emptyBuffer).ambLevel = s.ambLevel := rfl
@[simp] theorem State.emptyBuffer_ambCount : (s.emptyBuffer).ambCount = s.ambCount := rfl
@[simp] theorem State.emptyBuffer_learn : (s.emptyBuffer).learn = s.learn := rfl
@[simp] theorem State.emptyBuffer_lastAlarmTime : (s.emptyBuffer).lastAlarmTime = s.lastAlarmTime := rfl
@[simp] theorem State.emptyBuffer_hasAlarm : (s.emptyBuffer).hasAlarm = s.hasAlarm := rfl
@[simp] theorem State.emptyBuffer_latch : (s.emptyBuffer).latch = s.latch := rfl
@[simp] theorem State.emptyBuffer_inBuf : (s.emptyBuffer).inBuf = [] := rfl
@[simp] theorem State.emptyBuffer_ovf : (s.emptyBuffer).ovf = false := rfl
@[simp] theorem State.emptyBuffer_windows : (s.emptyBuffer).windows = s.windows := rfl
@[simp] theorem State.emptyBuffer_fe : (s.emptyBuffer).fe = s.fe := rfl
@[simp] theorem State.emptyBuffer_feValid : (s.emptyBuffer).feValid = s.feValid := rfl
@[simp] theorem State.emptyBuffer_evt : (s.emptyBuffer).evt = s.evt := rfl
@[simp] theorem State.emptyBuffer_evtValid : (s.emptyBuffer).evtValid = s.evtValid := rfl
@[simp] theorem State.emptyBuffer_lastErr : (s.emptyBuffer).lastErr = s.lastErr := rfl
@[simp] theorem State.emptyBuffer_lastPath : (s.emptyBuffer).lastPath = s.lastPath := rfl
@[simp] theorem State.emptyBuffer_resp : (s.emptyBuffer).resp = s.resp := rfl
@[simp] theorem State.emptyBuffer_host : (s.emptyBuffer).host = s.host := rfl
@[simp] theorem State.emptyBuffer_wallDraws : (s.emptyBuffer).wallDraws = s.wallDraws := rfl
@[simp] theorem State.emptyBuffer_nanDraws : (s.emptyBuffer).nanDraws = s.nanDraws := rfl

@[simp] theorem State.clearInstance_cfg : (s.clearInstance).cfg = s.cfg := rfl
@[simp] theorem State.clearInstance_configured : (s.clearInstance).configured = s.configured := rfl
@[simp] theorem State.clearInstance_startTime : (s.clearInstance).startTime = 0#64 := rfl
@[simp] theorem State.clearInstance_started : (s.clearInstance).started = false := rfl
@[simp] theorem State.clearInstance_lastTime : (s.clearInstance).lastTime = 0#64 := rfl
@[simp] theorem State.clearInstance_ambLevel : (s.clearInstance).ambLevel = 0#64 := rfl
@[simp] theorem State.clearInstance_ambCount : (s.clearInstance).ambCount = 0#64 := rfl
@[simp] theorem State.clearInstance_learn : (s.clearInstance).learn = true := rfl
@[simp] theorem State.clearInstance_lastAlarmTime : (s.clearInstance).lastAlarmTime = 0#64 := rfl
@[simp] theorem State.clearInstance_hasAlarm : (s.clearInstance).hasAlarm = false := rfl
@[simp] theorem State.clearInstance_latch : (s.clearInstance).latch = false := rfl
@[simp] theorem State.clearInstance_inBuf : (s.clearInstance).inBuf = [] := rfl
@[simp] theorem State.clearInstance_ovf : (s.clearInstance).ovf = false := rfl
@[simp] theorem State.clearInstance_windows : (s.clearInstance).windows = [] := rfl
@[simp] theorem State.clearInstance_fe : (s.clearInstance).fe = FrontendResult.reset := rfl
@[simp] theorem State.clearInstance_feValid : (s.clearInstance).feValid = false := rfl
@[simp] theorem State.clearInstance_evt : (s.clearInstance).evt = EventRegs.reset := rfl
@[simp] theorem State.clearInstance_evtValid : (s.clearInstance).evtValid = false := rfl
@[simp] theorem State.clearInstance_lastErr : (s.clearInstance).lastErr = s.lastErr := rfl
@[simp] theorem State.clearInstance_lastPath : (s.clearInstance).lastPath = 0#8 := rfl
@[simp] theorem State.clearInstance_resp : (s.clearInstance).resp = s.resp := rfl
@[simp] theorem State.clearInstance_host : (s.clearInstance).host = s.host := rfl
@[simp] theorem State.clearInstance_wallDraws : (s.clearInstance).wallDraws = s.wallDraws := rfl
@[simp] theorem State.clearInstance_nanDraws : (s.clearInstance).nanDraws = s.nanDraws := rfl

@[simp] theorem State.initInstance_cfg : (s.initInstance).cfg = s.cfg := rfl
@[simp] theorem State.initInstance_configured : (s.initInstance).configured = true := rfl
@[simp] theorem State.initInstance_startTime : (s.initInstance).startTime = 0#64 := rfl
@[simp] theorem State.initInstance_started : (s.initInstance).started = false := rfl
@[simp] theorem State.initInstance_lastTime : (s.initInstance).lastTime = 0#64 := rfl
@[simp] theorem State.initInstance_ambLevel : (s.initInstance).ambLevel = 0#64 := rfl
@[simp] theorem State.initInstance_ambCount : (s.initInstance).ambCount = 0#64 := rfl
@[simp] theorem State.initInstance_learn : (s.initInstance).learn = true := rfl
@[simp] theorem State.initInstance_lastAlarmTime : (s.initInstance).lastAlarmTime = 0#64 := rfl
@[simp] theorem State.initInstance_hasAlarm : (s.initInstance).hasAlarm = false := rfl
@[simp] theorem State.initInstance_latch : (s.initInstance).latch = false := rfl
@[simp] theorem State.initInstance_inBuf : (s.initInstance).inBuf = [] := rfl
@[simp] theorem State.initInstance_ovf : (s.initInstance).ovf = false := rfl
@[simp] theorem State.initInstance_windows : (s.initInstance).windows = [] := rfl
@[simp] theorem State.initInstance_fe : (s.initInstance).fe = FrontendResult.reset := rfl
@[simp] theorem State.initInstance_feValid : (s.initInstance).feValid = false := rfl
@[simp] theorem State.initInstance_evt : (s.initInstance).evt = EventRegs.reset := rfl
@[simp] theorem State.initInstance_evtValid : (s.initInstance).evtValid = false := rfl
@[simp] theorem State.initInstance_lastErr : (s.initInstance).lastErr = s.lastErr := rfl
@[simp] theorem State.initInstance_lastPath : (s.initInstance).lastPath = 0#8 := rfl
@[simp] theorem State.initInstance_resp : (s.initInstance).resp = s.resp := rfl
@[simp] theorem State.initInstance_host : (s.initInstance).host = s.host := rfl
@[simp] theorem State.initInstance_wallDraws : (s.initInstance).wallDraws = s.wallDraws := rfl
@[simp] theorem State.initInstance_nanDraws : (s.initInstance).nanDraws = s.nanDraws := rfl

@[simp] theorem State.winAppend_cfg (w : Window) : (s.winAppend w).cfg = s.cfg := rfl
@[simp] theorem State.winAppend_configured (w : Window) : (s.winAppend w).configured = s.configured := rfl
@[simp] theorem State.winAppend_startTime (w : Window) : (s.winAppend w).startTime = s.startTime := rfl
@[simp] theorem State.winAppend_started (w : Window) : (s.winAppend w).started = s.started := rfl
@[simp] theorem State.winAppend_lastTime (w : Window) : (s.winAppend w).lastTime = s.lastTime := rfl
@[simp] theorem State.winAppend_ambLevel (w : Window) : (s.winAppend w).ambLevel = s.ambLevel := rfl
@[simp] theorem State.winAppend_ambCount (w : Window) : (s.winAppend w).ambCount = s.ambCount := rfl
@[simp] theorem State.winAppend_learn (w : Window) : (s.winAppend w).learn = s.learn := rfl
@[simp] theorem State.winAppend_lastAlarmTime (w : Window) : (s.winAppend w).lastAlarmTime = s.lastAlarmTime := rfl
@[simp] theorem State.winAppend_hasAlarm (w : Window) : (s.winAppend w).hasAlarm = s.hasAlarm := rfl
@[simp] theorem State.winAppend_latch (w : Window) : (s.winAppend w).latch = s.latch := rfl
@[simp] theorem State.winAppend_inBuf (w : Window) : (s.winAppend w).inBuf = s.inBuf := rfl
@[simp] theorem State.winAppend_ovf (w : Window) : (s.winAppend w).ovf = s.ovf := rfl
@[simp] theorem State.winAppend_windows (w : Window) : (s.winAppend w).windows = appendWindow s.windows w := rfl
@[simp] theorem State.winAppend_fe (w : Window) : (s.winAppend w).fe = s.fe := rfl
@[simp] theorem State.winAppend_feValid (w : Window) : (s.winAppend w).feValid = s.feValid := rfl
@[simp] theorem State.winAppend_evt (w : Window) : (s.winAppend w).evt = s.evt := rfl
@[simp] theorem State.winAppend_evtValid (w : Window) : (s.winAppend w).evtValid = s.evtValid := rfl
@[simp] theorem State.winAppend_lastErr (w : Window) : (s.winAppend w).lastErr = s.lastErr := rfl
@[simp] theorem State.winAppend_lastPath (w : Window) : (s.winAppend w).lastPath = s.lastPath := rfl
@[simp] theorem State.winAppend_resp (w : Window) : (s.winAppend w).resp = s.resp := rfl
@[simp] theorem State.winAppend_host (w : Window) : (s.winAppend w).host = s.host := rfl
@[simp] theorem State.winAppend_wallDraws (w : Window) : (s.winAppend w).wallDraws = s.wallDraws := rfl
@[simp] theorem State.winAppend_nanDraws (w : Window) : (s.winAppend w).nanDraws = s.nanDraws := rfl

@[simp] theorem State.setFrontend_cfg (r : FrontendResult) : (s.setFrontend r).cfg = s.cfg := rfl
@[simp] theorem State.setFrontend_configured (r : FrontendResult) : (s.setFrontend r).configured = s.configured := rfl
@[simp] theorem State.setFrontend_startTime (r : FrontendResult) : (s.setFrontend r).startTime = s.startTime := rfl
@[simp] theorem State.setFrontend_started (r : FrontendResult) : (s.setFrontend r).started = s.started := rfl
@[simp] theorem State.setFrontend_lastTime (r : FrontendResult) : (s.setFrontend r).lastTime = s.lastTime := rfl
@[simp] theorem State.setFrontend_ambLevel (r : FrontendResult) : (s.setFrontend r).ambLevel = s.ambLevel := rfl
@[simp] theorem State.setFrontend_ambCount (r : FrontendResult) : (s.setFrontend r).ambCount = s.ambCount := rfl
@[simp] theorem State.setFrontend_learn (r : FrontendResult) : (s.setFrontend r).learn = s.learn := rfl
@[simp] theorem State.setFrontend_lastAlarmTime (r : FrontendResult) : (s.setFrontend r).lastAlarmTime = s.lastAlarmTime := rfl
@[simp] theorem State.setFrontend_hasAlarm (r : FrontendResult) : (s.setFrontend r).hasAlarm = s.hasAlarm := rfl
@[simp] theorem State.setFrontend_latch (r : FrontendResult) : (s.setFrontend r).latch = s.latch := rfl
@[simp] theorem State.setFrontend_inBuf (r : FrontendResult) : (s.setFrontend r).inBuf = s.inBuf := rfl
@[simp] theorem State.setFrontend_ovf (r : FrontendResult) : (s.setFrontend r).ovf = s.ovf := rfl
@[simp] theorem State.setFrontend_windows (r : FrontendResult) : (s.setFrontend r).windows = s.windows := rfl
@[simp] theorem State.setFrontend_fe (r : FrontendResult) : (s.setFrontend r).fe = r := rfl
@[simp] theorem State.setFrontend_feValid (r : FrontendResult) : (s.setFrontend r).feValid = true := rfl
@[simp] theorem State.setFrontend_evt (r : FrontendResult) : (s.setFrontend r).evt = s.evt := rfl
@[simp] theorem State.setFrontend_evtValid (r : FrontendResult) : (s.setFrontend r).evtValid = s.evtValid := rfl
@[simp] theorem State.setFrontend_lastErr (r : FrontendResult) : (s.setFrontend r).lastErr = s.lastErr := rfl
@[simp] theorem State.setFrontend_lastPath (r : FrontendResult) : (s.setFrontend r).lastPath = s.lastPath := rfl
@[simp] theorem State.setFrontend_resp (r : FrontendResult) : (s.setFrontend r).resp = s.resp := rfl
@[simp] theorem State.setFrontend_host (r : FrontendResult) : (s.setFrontend r).host = s.host := rfl
@[simp] theorem State.setFrontend_wallDraws (r : FrontendResult) : (s.setFrontend r).wallDraws = s.wallDraws := rfl
@[simp] theorem State.setFrontend_nanDraws (r : FrontendResult) : (s.setFrontend r).nanDraws = s.nanDraws := rfl

@[simp] theorem State.accept_cfg (t : F64) : (s.accept t).cfg = s.cfg := rfl
@[simp] theorem State.accept_configured (t : F64) : (s.accept t).configured = s.configured := rfl
@[simp] theorem State.accept_startTime (t : F64) : (s.accept t).startTime = if s.started then s.startTime else t := rfl
@[simp] theorem State.accept_started (t : F64) : (s.accept t).started = true := rfl
@[simp] theorem State.accept_lastTime (t : F64) : (s.accept t).lastTime = t := rfl
@[simp] theorem State.accept_ambLevel (t : F64) : (s.accept t).ambLevel = s.ambLevel := rfl
@[simp] theorem State.accept_ambCount (t : F64) : (s.accept t).ambCount = s.ambCount := rfl
@[simp] theorem State.accept_learn (t : F64) : (s.accept t).learn = s.learn := rfl
@[simp] theorem State.accept_lastAlarmTime (t : F64) : (s.accept t).lastAlarmTime = s.lastAlarmTime := rfl
@[simp] theorem State.accept_hasAlarm (t : F64) : (s.accept t).hasAlarm = s.hasAlarm := rfl
@[simp] theorem State.accept_latch (t : F64) : (s.accept t).latch = s.latch := rfl
@[simp] theorem State.accept_inBuf (t : F64) : (s.accept t).inBuf = [] := rfl
@[simp] theorem State.accept_ovf (t : F64) : (s.accept t).ovf = false := rfl
@[simp] theorem State.accept_windows (t : F64) : (s.accept t).windows = s.windows := rfl
@[simp] theorem State.accept_fe (t : F64) : (s.accept t).fe = s.fe := rfl
@[simp] theorem State.accept_feValid (t : F64) : (s.accept t).feValid = s.feValid := rfl
@[simp] theorem State.accept_evt (t : F64) : (s.accept t).evt = s.evt := rfl
@[simp] theorem State.accept_evtValid (t : F64) : (s.accept t).evtValid = s.evtValid := rfl
@[simp] theorem State.accept_lastErr (t : F64) : (s.accept t).lastErr = s.lastErr := rfl
@[simp] theorem State.accept_lastPath (t : F64) : (s.accept t).lastPath = s.lastPath := rfl
@[simp] theorem State.accept_resp (t : F64) : (s.accept t).resp = s.resp := rfl
@[simp] theorem State.accept_host (t : F64) : (s.accept t).host = s.host := rfl
@[simp] theorem State.accept_wallDraws (t : F64) : (s.accept t).wallDraws = s.wallDraws := rfl
@[simp] theorem State.accept_nanDraws (t : F64) : (s.accept t).nanDraws = s.nanDraws := rfl

@[simp] theorem State.finishPath_cfg (c : ResultCode) (p : U8) : (s.finishPath c p).cfg = s.cfg := rfl
@[simp] theorem State.finishPath_configured (c : ResultCode) (p : U8) : (s.finishPath c p).configured = s.configured := rfl
@[simp] theorem State.finishPath_startTime (c : ResultCode) (p : U8) : (s.finishPath c p).startTime = s.startTime := rfl
@[simp] theorem State.finishPath_started (c : ResultCode) (p : U8) : (s.finishPath c p).started = s.started := rfl
@[simp] theorem State.finishPath_lastTime (c : ResultCode) (p : U8) : (s.finishPath c p).lastTime = s.lastTime := rfl
@[simp] theorem State.finishPath_ambLevel (c : ResultCode) (p : U8) : (s.finishPath c p).ambLevel = s.ambLevel := rfl
@[simp] theorem State.finishPath_ambCount (c : ResultCode) (p : U8) : (s.finishPath c p).ambCount = s.ambCount := rfl
@[simp] theorem State.finishPath_learn (c : ResultCode) (p : U8) : (s.finishPath c p).learn = s.learn := rfl
@[simp] theorem State.finishPath_lastAlarmTime (c : ResultCode) (p : U8) : (s.finishPath c p).lastAlarmTime = s.lastAlarmTime := rfl
@[simp] theorem State.finishPath_hasAlarm (c : ResultCode) (p : U8) : (s.finishPath c p).hasAlarm = s.hasAlarm := rfl
@[simp] theorem State.finishPath_latch (c : ResultCode) (p : U8) : (s.finishPath c p).latch = s.latch := rfl
@[simp] theorem State.finishPath_inBuf (c : ResultCode) (p : U8) : (s.finishPath c p).inBuf = s.inBuf := rfl
@[simp] theorem State.finishPath_ovf (c : ResultCode) (p : U8) : (s.finishPath c p).ovf = s.ovf := rfl
@[simp] theorem State.finishPath_windows (c : ResultCode) (p : U8) : (s.finishPath c p).windows = s.windows := rfl
@[simp] theorem State.finishPath_fe (c : ResultCode) (p : U8) : (s.finishPath c p).fe = s.fe := rfl
@[simp] theorem State.finishPath_feValid (c : ResultCode) (p : U8) : (s.finishPath c p).feValid = s.feValid := rfl
@[simp] theorem State.finishPath_evt (c : ResultCode) (p : U8) : (s.finishPath c p).evt = s.evt := rfl
@[simp] theorem State.finishPath_evtValid (c : ResultCode) (p : U8) : (s.finishPath c p).evtValid = s.evtValid := rfl
@[simp] theorem State.finishPath_lastErr (c : ResultCode) (p : U8) : (s.finishPath c p).lastErr = s.lastErr := rfl
@[simp] theorem State.finishPath_lastPath (c : ResultCode) (p : U8) : (s.finishPath c p).lastPath = p := rfl
@[simp] theorem State.finishPath_resp (c : ResultCode) (p : U8) : (s.finishPath c p).resp = some ⟨c.byte, p.setWidth 64, c == .event⟩ := rfl
@[simp] theorem State.finishPath_host (c : ResultCode) (p : U8) : (s.finishPath c p).host = s.host := rfl
@[simp] theorem State.finishPath_wallDraws (c : ResultCode) (p : U8) : (s.finishPath c p).wallDraws = s.wallDraws := rfl
@[simp] theorem State.finishPath_nanDraws (c : ResultCode) (p : U8) : (s.finishPath c p).nanDraws = s.nanDraws := rfl

@[simp] theorem State.learnFrom_cfg (b : F64) : (s.learnFrom b).cfg = s.cfg := rfl
@[simp] theorem State.learnFrom_configured (b : F64) : (s.learnFrom b).configured = s.configured := rfl
@[simp] theorem State.learnFrom_startTime (b : F64) : (s.learnFrom b).startTime = s.startTime := rfl
@[simp] theorem State.learnFrom_started (b : F64) : (s.learnFrom b).started = s.started := rfl
@[simp] theorem State.learnFrom_lastTime (b : F64) : (s.learnFrom b).lastTime = s.lastTime := rfl
@[simp] theorem State.learnFrom_ambLevel (b : F64) : (s.learnFrom b).ambLevel = runningMean (.draw s.nanDraws) s.ambLevel b (s.ambCount + 1#64) := rfl
@[simp] theorem State.learnFrom_ambCount (b : F64) : (s.learnFrom b).ambCount = s.ambCount + 1#64 := rfl
@[simp] theorem State.learnFrom_learn (b : F64) : (s.learnFrom b).learn = s.learn := rfl
@[simp] theorem State.learnFrom_lastAlarmTime (b : F64) : (s.learnFrom b).lastAlarmTime = s.lastAlarmTime := rfl
@[simp] theorem State.learnFrom_hasAlarm (b : F64) : (s.learnFrom b).hasAlarm = s.hasAlarm := rfl
@[simp] theorem State.learnFrom_latch (b : F64) : (s.learnFrom b).latch = s.latch := rfl
@[simp] theorem State.learnFrom_inBuf (b : F64) : (s.learnFrom b).inBuf = s.inBuf := rfl
@[simp] theorem State.learnFrom_ovf (b : F64) : (s.learnFrom b).ovf = s.ovf := rfl
@[simp] theorem State.learnFrom_windows (b : F64) : (s.learnFrom b).windows = s.windows := rfl
@[simp] theorem State.learnFrom_fe (b : F64) : (s.learnFrom b).fe = s.fe := rfl
@[simp] theorem State.learnFrom_feValid (b : F64) : (s.learnFrom b).feValid = s.feValid := rfl
@[simp] theorem State.learnFrom_evt (b : F64) : (s.learnFrom b).evt = s.evt := rfl
@[simp] theorem State.learnFrom_evtValid (b : F64) : (s.learnFrom b).evtValid = s.evtValid := rfl
@[simp] theorem State.learnFrom_lastErr (b : F64) : (s.learnFrom b).lastErr = s.lastErr := rfl
@[simp] theorem State.learnFrom_lastPath (b : F64) : (s.learnFrom b).lastPath = s.lastPath := rfl
@[simp] theorem State.learnFrom_resp (b : F64) : (s.learnFrom b).resp = s.resp := rfl
@[simp] theorem State.learnFrom_host (b : F64) : (s.learnFrom b).host = s.host := rfl
@[simp] theorem State.learnFrom_wallDraws (b : F64) : (s.learnFrom b).wallDraws = s.wallDraws := rfl
@[simp] theorem State.learnFrom_nanDraws (b : F64) : (s.learnFrom b).nanDraws = s.nanDraws + 1 := rfl

@[simp] theorem State.classified_cfg (t : F64) (r : FrontendResult) : (s.classified t r).cfg = s.cfg := rfl
@[simp] theorem State.classified_configured (t : F64) (r : FrontendResult) : (s.classified t r).configured = s.configured := rfl
@[simp] theorem State.classified_startTime (t : F64) (r : FrontendResult) : (s.classified t r).startTime = s.startTime := rfl
@[simp] theorem State.classified_started (t : F64) (r : FrontendResult) : (s.classified t r).started = s.started := rfl
@[simp] theorem State.classified_lastTime (t : F64) (r : FrontendResult) : (s.classified t r).lastTime = s.lastTime := rfl
@[simp] theorem State.classified_ambLevel (t : F64) (r : FrontendResult) : (s.classified t r).ambLevel = s.ambLevel := rfl
@[simp] theorem State.classified_ambCount (t : F64) (r : FrontendResult) : (s.classified t r).ambCount = s.ambCount := rfl
@[simp] theorem State.classified_learn (t : F64) (r : FrontendResult) : (s.classified t r).learn = false := rfl
@[simp] theorem State.classified_lastAlarmTime (t : F64) (r : FrontendResult) : (s.classified t r).lastAlarmTime = s.lastAlarmTime := rfl
@[simp] theorem State.classified_hasAlarm (t : F64) (r : FrontendResult) : (s.classified t r).hasAlarm = s.hasAlarm := rfl
@[simp] theorem State.classified_latch (t : F64) (r : FrontendResult) : (s.classified t r).latch = s.latch := rfl
@[simp] theorem State.classified_inBuf (t : F64) (r : FrontendResult) : (s.classified t r).inBuf = s.inBuf := rfl
@[simp] theorem State.classified_ovf (t : F64) (r : FrontendResult) : (s.classified t r).ovf = s.ovf := rfl
@[simp] theorem State.classified_windows (t : F64) (r : FrontendResult) : (s.classified t r).windows = appendWindow s.windows (classify s.cfg (.draw s.nanDraws) s.ambLevel t r) := rfl
@[simp] theorem State.classified_fe (t : F64) (r : FrontendResult) : (s.classified t r).fe = s.fe := rfl
@[simp] theorem State.classified_feValid (t : F64) (r : FrontendResult) : (s.classified t r).feValid = s.feValid := rfl
@[simp] theorem State.classified_evt (t : F64) (r : FrontendResult) : (s.classified t r).evt = s.evt := rfl
@[simp] theorem State.classified_evtValid (t : F64) (r : FrontendResult) : (s.classified t r).evtValid = s.evtValid := rfl
@[simp] theorem State.classified_lastErr (t : F64) (r : FrontendResult) : (s.classified t r).lastErr = s.lastErr := rfl
@[simp] theorem State.classified_lastPath (t : F64) (r : FrontendResult) : (s.classified t r).lastPath = s.lastPath := rfl
@[simp] theorem State.classified_resp (t : F64) (r : FrontendResult) : (s.classified t r).resp = s.resp := rfl
@[simp] theorem State.classified_host (t : F64) (r : FrontendResult) : (s.classified t r).host = s.host := rfl
@[simp] theorem State.classified_wallDraws (t : F64) (r : FrontendResult) : (s.classified t r).wallDraws = s.wallDraws := rfl
@[simp] theorem State.classified_nanDraws (t : F64) (r : FrontendResult) : (s.classified t r).nanDraws = s.nanDraws + 1 := rfl

@[simp] theorem State.detect_cfg (t : F64) (d : Detection) : (s.detect t d).cfg = s.cfg := rfl
@[simp] theorem State.detect_configured (t : F64) (d : Detection) : (s.detect t d).configured = s.configured := rfl
@[simp] theorem State.detect_startTime (t : F64) (d : Detection) : (s.detect t d).startTime = s.startTime := rfl
@[simp] theorem State.detect_started (t : F64) (d : Detection) : (s.detect t d).started = s.started := rfl
@[simp] theorem State.detect_lastTime (t : F64) (d : Detection) : (s.detect t d).lastTime = s.lastTime := rfl
@[simp] theorem State.detect_ambLevel (t : F64) (d : Detection) : (s.detect t d).ambLevel = s.ambLevel := rfl
@[simp] theorem State.detect_ambCount (t : F64) (d : Detection) : (s.detect t d).ambCount = s.ambCount := rfl
@[simp] theorem State.detect_learn (t : F64) (d : Detection) : (s.detect t d).learn = s.learn := rfl
@[simp] theorem State.detect_lastAlarmTime (t : F64) (d : Detection) : (s.detect t d).lastAlarmTime = t := rfl
@[simp] theorem State.detect_hasAlarm (t : F64) (d : Detection) : (s.detect t d).hasAlarm = true := rfl
@[simp] theorem State.detect_latch (t : F64) (d : Detection) : (s.detect t d).latch = true := rfl
@[simp] theorem State.detect_inBuf (t : F64) (d : Detection) : (s.detect t d).inBuf = s.inBuf := rfl
@[simp] theorem State.detect_ovf (t : F64) (d : Detection) : (s.detect t d).ovf = s.ovf := rfl
@[simp] theorem State.detect_windows (t : F64) (d : Detection) : (s.detect t d).windows = s.windows := rfl
@[simp] theorem State.detect_fe (t : F64) (d : Detection) : (s.detect t d).fe = s.fe := rfl
@[simp] theorem State.detect_feValid (t : F64) (d : Detection) : (s.detect t d).feValid = s.feValid := rfl
@[simp] theorem State.detect_evt (t : F64) (d : Detection) : (s.detect t d).evt = eventOf s.cfg t d := rfl
@[simp] theorem State.detect_evtValid (t : F64) (d : Detection) : (s.detect t d).evtValid = true := rfl
@[simp] theorem State.detect_lastErr (t : F64) (d : Detection) : (s.detect t d).lastErr = s.lastErr := rfl
@[simp] theorem State.detect_lastPath (t : F64) (d : Detection) : (s.detect t d).lastPath = s.lastPath := rfl
@[simp] theorem State.detect_resp (t : F64) (d : Detection) : (s.detect t d).resp = s.resp := rfl
@[simp] theorem State.detect_host (t : F64) (d : Detection) : (s.detect t d).host = s.host := rfl
@[simp] theorem State.detect_wallDraws (t : F64) (d : Detection) : (s.detect t d).wallDraws = s.wallDraws := rfl
@[simp] theorem State.detect_nanDraws (t : F64) (d : Detection) : (s.detect t d).nanDraws = s.nanDraws := rfl

@[simp] theorem State.afterStamp_cfg (st : Stamp) : (s.afterStamp st).cfg = s.cfg := by cases st <;> rfl
@[simp] theorem State.afterStamp_configured (st : Stamp) : (s.afterStamp st).configured = s.configured := by cases st <;> rfl
@[simp] theorem State.afterStamp_startTime (st : Stamp) : (s.afterStamp st).startTime = s.startTime := by cases st <;> rfl
@[simp] theorem State.afterStamp_started (st : Stamp) : (s.afterStamp st).started = s.started := by cases st <;> rfl
@[simp] theorem State.afterStamp_lastTime (st : Stamp) : (s.afterStamp st).lastTime = s.lastTime := by cases st <;> rfl
@[simp] theorem State.afterStamp_ambLevel (st : Stamp) : (s.afterStamp st).ambLevel = s.ambLevel := by cases st <;> rfl
@[simp] theorem State.afterStamp_ambCount (st : Stamp) : (s.afterStamp st).ambCount = s.ambCount := by cases st <;> rfl
@[simp] theorem State.afterStamp_learn (st : Stamp) : (s.afterStamp st).learn = s.learn := by cases st <;> rfl
@[simp] theorem State.afterStamp_lastAlarmTime (st : Stamp) : (s.afterStamp st).lastAlarmTime = s.lastAlarmTime := by cases st <;> rfl
@[simp] theorem State.afterStamp_hasAlarm (st : Stamp) : (s.afterStamp st).hasAlarm = s.hasAlarm := by cases st <;> rfl
@[simp] theorem State.afterStamp_latch (st : Stamp) : (s.afterStamp st).latch = s.latch := by cases st <;> rfl
@[simp] theorem State.afterStamp_inBuf (st : Stamp) : (s.afterStamp st).inBuf = s.inBuf := by cases st <;> rfl
@[simp] theorem State.afterStamp_ovf (st : Stamp) : (s.afterStamp st).ovf = s.ovf := by cases st <;> rfl
@[simp] theorem State.afterStamp_windows (st : Stamp) : (s.afterStamp st).windows = s.windows := by cases st <;> rfl
@[simp] theorem State.afterStamp_fe (st : Stamp) : (s.afterStamp st).fe = s.fe := by cases st <;> rfl
@[simp] theorem State.afterStamp_feValid (st : Stamp) : (s.afterStamp st).feValid = s.feValid := by cases st <;> rfl
@[simp] theorem State.afterStamp_evt (st : Stamp) : (s.afterStamp st).evt = s.evt := by cases st <;> rfl
@[simp] theorem State.afterStamp_evtValid (st : Stamp) : (s.afterStamp st).evtValid = s.evtValid := by cases st <;> rfl
@[simp] theorem State.afterStamp_lastErr (st : Stamp) : (s.afterStamp st).lastErr = s.lastErr := by cases st <;> rfl
@[simp] theorem State.afterStamp_lastPath (st : Stamp) : (s.afterStamp st).lastPath = s.lastPath := by cases st <;> rfl
@[simp] theorem State.afterStamp_resp (st : Stamp) : (s.afterStamp st).resp = s.resp := by cases st <;> rfl
@[simp] theorem State.afterStamp_host (st : Stamp) : (s.afterStamp st).host = s.host := by cases st <;> rfl
@[simp] theorem State.afterStamp_nanDraws (st : Stamp) : (s.afterStamp st).nanDraws = s.nanDraws := by cases st <;> rfl
@[simp] theorem State.afterStamp_given (t : F64) : s.afterStamp (.given t) = s := rfl
@[simp] theorem State.stampTime_given (t : F64) : s.stampTime (.given t) = t := rfl

@[simp] theorem State.unlatched_cfg (t : F64) : (s.unlatched t).cfg = s.cfg := rfl
@[simp] theorem State.unlatched_configured (t : F64) : (s.unlatched t).configured = s.configured := rfl
@[simp] theorem State.unlatched_startTime (t : F64) : (s.unlatched t).startTime = if s.started then s.startTime else t := rfl
@[simp] theorem State.unlatched_started (t : F64) : (s.unlatched t).started = true := rfl
@[simp] theorem State.unlatched_lastTime (t : F64) : (s.unlatched t).lastTime = t := rfl
@[simp] theorem State.unlatched_ambLevel (t : F64) : (s.unlatched t).ambLevel = s.ambLevel := rfl
@[simp] theorem State.unlatched_ambCount (t : F64) : (s.unlatched t).ambCount = s.ambCount := rfl
@[simp] theorem State.unlatched_learn (t : F64) : (s.unlatched t).learn = s.learn := rfl
@[simp] theorem State.unlatched_lastAlarmTime (t : F64) : (s.unlatched t).lastAlarmTime = s.lastAlarmTime := rfl
@[simp] theorem State.unlatched_hasAlarm (t : F64) : (s.unlatched t).hasAlarm = s.hasAlarm := rfl
@[simp] theorem State.unlatched_latch (t : F64) : (s.unlatched t).latch = false := rfl
@[simp] theorem State.unlatched_inBuf (t : F64) : (s.unlatched t).inBuf = [] := rfl
@[simp] theorem State.unlatched_ovf (t : F64) : (s.unlatched t).ovf = false := rfl
@[simp] theorem State.unlatched_windows (t : F64) : (s.unlatched t).windows = s.windows := rfl
@[simp] theorem State.unlatched_fe (t : F64) : (s.unlatched t).fe = frontend s.cfg s.inBuf := rfl
@[simp] theorem State.unlatched_feValid (t : F64) : (s.unlatched t).feValid = true := rfl
@[simp] theorem State.unlatched_evt (t : F64) : (s.unlatched t).evt = s.evt := rfl
@[simp] theorem State.unlatched_evtValid (t : F64) : (s.unlatched t).evtValid = s.evtValid := rfl
@[simp] theorem State.unlatched_lastErr (t : F64) : (s.unlatched t).lastErr = s.lastErr := rfl
@[simp] theorem State.unlatched_lastPath (t : F64) : (s.unlatched t).lastPath = s.lastPath := rfl
@[simp] theorem State.unlatched_resp (t : F64) : (s.unlatched t).resp = s.resp := rfl
@[simp] theorem State.unlatched_host (t : F64) : (s.unlatched t).host = s.host := rfl
@[simp] theorem State.unlatched_wallDraws (t : F64) : (s.unlatched t).wallDraws = s.wallDraws := rfl
@[simp] theorem State.unlatched_nanDraws (t : F64) : (s.unlatched t).nanDraws = s.nanDraws := rfl

end Sys2Proof.Machine
end

