-- ==== Sys2Proof/Laws/Ops.lean ====
section
/-! SUPPORT. What each shared operation and each meaning can do, said once: a proof about a command cites the `_cases`
lemma of its meaning instead of unfolding it. -/

namespace Sys2Proof.Machine

variable {s t : State}

theorem appendWindow_full {l : List Window} {w : Window} (h : l.length = 100) :
    appendWindow l w = l.tail ++ [w] := by simp [appendWindow, Config.winCap, h]

theorem appendWindow_room {l : List Window} {w : Window} (h : l.length ≠ 100) :
    appendWindow l w = l ++ [w] := by simp [appendWindow, Config.winCap, h]

/-- Everything in the ring buffer after an append was there before, or is the window appended. -/
theorem mem_appendWindow {l : List Window} {w v : Window} (h : v ∈ appendWindow l w) : v ∈ l ∨ v = w := by
  unfold appendWindow at h
  split at h
  · rcases List.mem_append.1 h with h | h
    · exact .inl (List.mem_of_mem_tail h)
    · exact .inr (by simpa using h)
  · simpa using h

theorem execCfgw_cases {sel : BitVec 8} {v : Word} (h : execCfgw sel v s = .next t) :
    (CfgReg.ofSel sel = none ∧ t = s.raise .errBadSelect 0#64) ∨
    (∃ r, CfgReg.ofSel sel = some r ∧ s.configured = true ∧ t = s.raise .errCfgLocked 0#64) ∨
    (∃ r, CfgReg.ofSel sel = some r ∧ s.configured = false ∧
      t = { s with cfg := s.cfg.write r v }.respond .ok 0#64) := by
  unfold execCfgw at h
  split at h
  · next hs => exact .inl ⟨hs, by injection h with h; exact h.symm⟩
  · next r hs =>
    split at h <;> injection h with h
    · next hc => exact .inr (.inl ⟨r, hs, hc, h.symm⟩)
    · next hc => exact .inr (.inr ⟨r, hs, by simpa using hc, h.symm⟩)

theorem execCfgr_cases {sel : BitVec 8} (h : execCfgr sel s = .next t) :
    (CfgReg.ofSel sel = none ∧ t = s.raise .errBadSelect 0#64) ∨
    (∃ r, CfgReg.ofSel sel = some r ∧ t = s.respond .ok (s.cfg.read r)) := by
  unfold execCfgr at h
  split at h <;> injection h with h
  · next hs => exact .inl ⟨hs, h.symm⟩
  · next r hs => exact .inr ⟨r, hs, h.symm⟩

theorem execInit_cases (h : execInit s = .next t) :
    (s.configured = true ∧ t = s.raise .errCfgLocked 0#64) ∨
    (s.configured = false ∧ s.cfg.check ≠ 0#64 ∧ t = s.raise .errConfigInvalid s.cfg.check) ∨
    (s.configured = false ∧ s.cfg.check = 0#64 ∧ t = s.initInstance.respond .ok 0#64) := by
  unfold execInit at h
  split at h
  · next hc => injection h with h; exact .inl ⟨hc, h.symm⟩
  · next hc =>
    split at h <;> injection h with h
    · next hb => exact .inr (.inl ⟨by simpa using hc, hb, h.symm⟩)
    · next hb => exact .inr (.inr ⟨by simpa using hc, by simpa using hb, h.symm⟩)

theorem execPush_cases {x : F64} (h : execPush x s = .next t) :
    (s.configured = false ∧ t = s.raise .errNotConfigured 0#64) ∨
    (s.configured = true ∧ s.fill = s.chunkLen ∧ t = { s with ovf := true }.raise .errBufFull 0#64) ∨
    (s.configured = true ∧ s.fill ≠ s.chunkLen ∧ t = { s with inBuf := s.inBuf ++ [x] }.respond .ok 0#64) := by
  unfold execPush at h
  split at h
  · next hc => injection h with h; exact .inl ⟨by simpa using hc, h.symm⟩
  · next hc =>
    split at h <;> injection h with h
    · next hf => exact .inr (.inl ⟨by simpa using hc, hf, h.symm⟩)
    · next hf => exact .inr (.inr ⟨by simpa using hc, hf, h.symm⟩)

theorem execAnlz_cases (h : execAnlz s = .next t) :
    (s.configured = false ∧ t = s.raise .errNotConfigured 0#64) ∨
    (s.configured = true ∧ s.wrongLength = true ∧ t = s.emptyBuffer.raise .errWrongLength 0#64) ∨
    (s.configured = true ∧ s.wrongLength = false ∧
      t = (s.emptyBuffer.setFrontend (frontend s.cfg s.inBuf)).respond .ok 0#64) := by
  unfold execAnlz at h
  split at h
  · next hc => injection h with h; exact .inl ⟨by simpa using hc, h.symm⟩
  · next hc =>
    split at h <;> injection h with h
    · next hf => exact .inr (.inl ⟨by simpa using hc, hf, h.symm⟩)
    · next hf => exact .inr (.inr ⟨by simpa using hc, by simpa using hf, h.symm⟩)

theorem execRegr_cases {sel : BitVec 8} (h : execRegr sel s = .next t) :
    (StatusReg.ofSel sel = none ∧ t = s.raise .errBadSelect 0#64) ∨
    (∃ r, StatusReg.ofSel sel = some r ∧ t = s.respond .ok (s.readStatus r)) := by
  unfold execRegr at h
  split at h <;> injection h with h
  · next hs => exact .inl ⟨hs, h.symm⟩
  · next r hs => exact .inr ⟨r, hs, h.symm⟩

theorem execWinr_cases {sel : BitVec 8} {idx : BitVec 16} (h : execWinr sel idx s = .next t) :
    (t = s.raise .errBadSelect 0#64) ∨
    (∃ f w, WindowField.ofSel sel = some f ∧ s.windows[idx.toNat]? = some w ∧ t = s.respond .ok (w.read f)) := by
  unfold execWinr at h
  split at h <;> injection h with h
  · next f w hf hw => exact .inr ⟨f, w, hf, hw, h.symm⟩
  · exact .inl h.symm

theorem execEvtr_cases {sel : BitVec 8} (h : execEvtr sel s = .next t) :
    (EventField.ofSel sel = none ∧ t = s.raise .errBadSelect 0#64) ∨
    (∃ e, EventField.ofSel sel = some e ∧ t = s.respond .ok (s.evt.read e)) := by
  unfold execEvtr at h
  split at h <;> injection h with h
  · next hs => exact .inl ⟨hs, h.symm⟩
  · next e hs => exact .inr ⟨e, hs, h.symm⟩

@[simp] theorem frontend_meanAll (c : CfgRegs) (x : List F64) : (frontend c x).meanAll = meanMag (chunkBins c x) := by
  unfold frontend
  dsimp only
  split <;> rfl

/-- The background is the mean over the bins outside the band, or a tenth of the mean of all (R137). -/
theorem frontend_background_cases (c : CfgRegs) (x : List F64) :
    (otherBins c (chunkBins c x) = [] ∧
      (frontend c x).background = F64.mul .pure (F64.ratio 1 10) (meanMag (chunkBins c x))) ∨
    (otherBins c (chunkBins c x) ≠ [] ∧ (frontend c x).background = meanMag (otherBins c (chunkBins c x))) := by
  cases h : otherBins c (chunkBins c x)
  · exact .inl ⟨rfl, by simp only [frontend, h]; split <;> with_reducible rfl⟩
  · exact .inr ⟨List.cons_ne_nil _ _, by simp only [frontend, h]; split <;> with_reducible rfl⟩

theorem peakFrom_cons (b k : Bin) (l : List Bin) :
    peakFrom b (k :: l) = peakFrom (if F64.gt k.mag b.mag then k else b) l := rfl

/-- The sustained analysis detects only through `analyseStrong`, past the three counts of R190. -/
theorem sustained_cases {c : CfgRegs} {l : List Window} {x : F64} {d : Detection} (h : sustained c l x = some d) :
    5 ≤ l.length ∧ 3 ≤ (l.filter (Window.recent c x)).length ∧
    2 ≤ ((l.filter (Window.recent c x)).filter Window.strong).length ∧
    analyseStrong c (l.filter (Window.recent c x)) ((l.filter (Window.recent c x)).filter Window.strong) = some d := by
  simp only [sustained] at h
  split_ifs at h with h1 h2 h3
  exact ⟨not_lt.1 h1, not_lt.1 h2, not_lt.1 h3, h⟩

/-- The end of a classified chunk: path 3 or path 4 (R176). -/
theorem analysed_cases (x : F64) :
    (sustained s.cfg s.windows x = none ∧ s.analysed x = s.finishPath .ok 3#8) ∨
    (∃ d, sustained s.cfg s.windows x = some d ∧ s.analysed x = (s.detect x d).finishPath .event 4#8) := by
  unfold State.analysed
  split
  · next h => exact .inl ⟨h, rfl⟩
  · next d h => exact .inr ⟨d, h, rfl⟩

/-- PROC from its timestamp on does one of five things (R160, R161). -/
theorem procAt_cases (x : F64) :
    (s.timeOk x = false ∧ s.procAt x = s.emptyBuffer.raise .errTimestamp 0#64) ∨
    (s.timeOk x = true ∧ s.latchInForce x = true ∧ s.procAt x = (s.accept x).finishPath .ok 1#8) ∨
    (s.timeOk x = true ∧ s.latchInForce x = false ∧ (s.unlatched x).learningAt x = true ∧
      s.procAt x = ((s.unlatched x).learnFrom (frontend s.cfg s.inBuf).background).finishPath .ok 2#8) ∨
    (s.timeOk x = true ∧ s.latchInForce x = false ∧ (s.unlatched x).learningAt x = false ∧
      s.procAt x = ((s.unlatched x).classified x (frontend s.cfg s.inBuf)).analysed x) := by
  have hl : (s.accept x).latchInForce x = s.latchInForce x := rfl
  unfold State.procAt State.processed
  rw [hl]
  cases s.timeOk x <;> cases s.latchInForce x <;> cases (s.unlatched x).learningAt x <;> simp

theorem execProc_cases {st : Stamp} (h : execProc st s = .next t) :
    (s.configured = false ∧ t = s.raise .errNotConfigured 0#64) ∨
    (s.configured = true ∧ s.wrongLength = true ∧ t = s.emptyBuffer.raise .errWrongLength 0#64) ∨
    (s.configured = true ∧ s.wrongLength = false ∧ t = (s.afterStamp st).procAt (s.stampTime st)) := by
  unfold execProc at h
  split at h
  · next hc => injection h with h; exact .inl ⟨by simpa using hc, h.symm⟩
  · next hc =>
    split at h <;> injection h with h
    · next hf => exact .inr (.inl ⟨by simpa using hc, hf, h.symm⟩)
    · next hf => exact .inr (.inr ⟨by simpa using hc, by simpa using hf, h.symm⟩)

/-- A step is one of three things: idle, a reset, or a command. -/
theorem step_cases :
    (s.host = [] ∧ step s = .next s) ∨
    (∃ rest, s.host = .rst :: rest ∧ step s = .next { s with host := rest }.hardReset) ∨
    (∃ w d rest, s.host = .command w d :: rest ∧ step s = issue w d { s with host := rest }) := by
  unfold step act
  split
  · next h => exact .inl ⟨h, rfl⟩
  · next rest h => exact .inr (.inl ⟨rest, h, rfl⟩)
  · next w d rest h => exact .inr (.inr ⟨w, d, rest, h, rfl⟩)

end Sys2Proof.Machine
end

