-- ==== Sys2Proof/Laws/PerInstr.lean ====
section
/-! SUPPORT. For every command: operand assembly (spec 30 R81) reads back from the encoded words what was encoded, and
well-formedness is a matter of the encoded selector. One lemma a constructor. -/

namespace Sys2Proof.Laws

theorem fieldSel_commandWord (op sel : BitVec 8) (idx : BitVec 16) : fieldSel (commandWord op sel idx) = sel := by
  unfold fieldSel commandWord
  ext i hi
  simp only [BitVec.getElem_extractLsb', BitVec.getLsbD_append]
  simp [hi]

theorem fieldIdx_commandWord (op sel : BitVec 8) (idx : BitVec 16) : fieldIdx (commandWord op sel idx) = idx := by
  unfold fieldIdx commandWord
  ext i hi
  simp only [BitVec.getElem_extractLsb', BitVec.getLsbD_append]
  simp [hi]

theorem fieldTsv_commandWord (op sel : BitVec 8) (idx : BitVec 16) :
    fieldTsv (commandWord op sel idx) = sel.getLsbD 0 := by
  simp only [fieldTsv, commandWord, BitVec.getLsbD_append]
  simp

/-- The opcode of a command (R82). -/
def opcodeOf : Instr → Opcode
  | .nop => .nop
  | .cfgw _ _ => .cfgw
  | .cfgr _ => .cfgr
  | .init => .init
  | .srst => .srst
  | .push _ => .push
  | .proc _ => .proc
  | .anlz => .anlz
  | .regr _ => .regr
  | .winr _ _ => .winr
  | .evtr _ => .evtr

/-- Operand assembly reads the encoded operands back. -/
def OperandFields.Statement (i : Instr) : Prop := assembleOperands (opcodeOf i) (encode i).1 (encode i).2 = i

theorem OperandFields.nop : OperandFields.Statement .nop := rfl

theorem OperandFields.cfgw (sel : BitVec 8) (value : Word) : OperandFields.Statement (.cfgw sel value) := by
  simp [Statement, opcodeOf, assembleOperands, encode, fieldSel_commandWord]

theorem OperandFields.cfgr (sel : BitVec 8) : OperandFields.Statement (.cfgr sel) := by
  simp [Statement, opcodeOf, assembleOperands, encode, fieldSel_commandWord]

theorem OperandFields.init : OperandFields.Statement .init := rfl

theorem OperandFields.srst : OperandFields.Statement .srst := rfl

theorem OperandFields.push (sample : F64) : OperandFields.Statement (.push sample) := rfl

theorem OperandFields.proc (stamp : Stamp) : OperandFields.Statement (.proc stamp) := by
  cases stamp <;> simp [Statement, opcodeOf, assembleOperands, encode, fieldTsv_commandWord]

theorem OperandFields.anlz : OperandFields.Statement .anlz := rfl

theorem OperandFields.regr (sel : BitVec 8) : OperandFields.Statement (.regr sel) := by
  simp [Statement, opcodeOf, assembleOperands, encode, fieldSel_commandWord]

theorem OperandFields.winr (sel : BitVec 8) (idx : BitVec 16) : OperandFields.Statement (.winr sel idx) := by
  simp [Statement, opcodeOf, assembleOperands, encode, fieldSel_commandWord, fieldIdx_commandWord]

theorem OperandFields.evtr (sel : BitVec 8) : OperandFields.Statement (.evtr sel) := by
  simp [Statement, opcodeOf, assembleOperands, encode, fieldSel_commandWord]

end Sys2Proof.Laws
end

