-- ==== Sys2Proof/Tests/Slice0.lean ====
section
/-! SUPPORT. Tests of the model on the spec's own vectors (spec 30 R88, 95), and for every statement with hypotheses a
state and operands that meet them. Expected values are the spec's, or counted by hand from its rules. -/

namespace Sys2Proof.Tests

open Sys2Proof.Machine

-- The tests are checked one after another: all at once they ask for more threads than the sandbox gives.
set_option Elab.async false

/-! ## Helpers -/

/-- What a test looks at in an outcome: the next state. -/
def after (o : Host.Outcome State Fault Refusal) : State :=
  match o with
  | .next s => s
  | .fault _ => State.reset
  | .refused _ => State.reset

/-- RESULT, RDATA and EVT of an outcome. Some response means a next state, since `after` answers the reset state, which
has none, for the other outcomes. -/
def reply (o : Host.Outcome State Fault Refusal) : Option Response := (after o).resp

/-- Configuration E of 95 section 0 with CHUNK_SIZE n. -/
def cfgE (n : Nat) : CfgRegs :=
  ⟨64#64, BitVec.ofNat 64 n, 0x4030000000000000#64, 0x4000000000000000#64, 0x3FF0000000000000#64,
    0x4024000000000000#64, 0x4014000000000000#64, 0x4052C00000000000#64, 0x3FD0000000000000#64⟩

/-- An instance with configuration E, chunks of n samples, and these samples pushed. -/
def fresh (n : Nat) (xs : List F64) : State :=
  { State.reset with cfg := cfgE n, configured := true, inBuf := xs }

/-- An instance past learning, started at 0.0, its last PROC at 9.0, one zero sample pushed and chunks of one. -/
def activeState (l : List Window) : State :=
  { fresh 1 [0#64] with
    started := true, lastTime := 0x4022000000000000#64, ambCount := 1#64, learn := false, windows := l,
    feValid := true, lastPath := 3#8 }

/-- The state above just after a detection at 9.0: the latch is set. -/
def latchedState : State :=
  { activeState [] with
    lastAlarmTime := 0x4022000000000000#64, hasAlarm := true, latch := true,
    evt := ⟨0x4022000000000000#64, 0x4030000000000000#64, 0x4249AB697E7FFFFE#64, 0x3FF0000000000000#64, 1#64,
      0x3FE1C71C71C71C72#64, 0x4024000000000000#64⟩,
    evtValid := true, lastPath := 4#8 }

/-- The pattern of a small integer, as f64. -/
def f (n : Nat) : F64 := F64.ofNat n

/-- Strong windows with these frequency and ratio pairs alternating with others, from TS 0.0 in steps of 0.25
(95 section 2.7). -/
def alternating : Nat → List (F64 × F64) → List Window
  | _, [] => []
  | k, (fr, ra) :: rest =>
    ⟨F64.ratio k 4, true, fr, ra, 0#64⟩ :: ⟨F64.ratio (k + 1) 4, false, 0#64, f 1, 0#64⟩ :: alternating (k + 2) rest

/-- The default configuration (R20). -/
def defaults : CfgRegs := CfgRegs.reset

/-- Vector S5c of 95 section 2.7. -/
def windowsS5c : List Window :=
  alternating 0 [(f 3200, f 1000), (f 3200, f 2000), (f 3200, f 1000), (f 3200, f 2000), (f 3200, f 1000)]

/-- S5c's windows moved into the band of configuration E. -/
def windowsE : List Window :=
  alternating 0 [(f 16, f 1000), (f 16, f 2000), (f 16, f 1000), (f 16, f 2000), (f 16, f 1000)]

/-! ## Well-formedness: one ill-formed command for each check -/

theorem test_wellFormed_refuses_cfgw : (Instr.cfgw 9#8 0#64).wellFormed = false := by decide
theorem test_wellFormed_refuses_cfgr : (Instr.cfgr 255#8).wellFormed = false := by decide
theorem test_wellFormed_refuses_regr : (Instr.regr 0x0D#8).wellFormed = false := by decide
theorem test_wellFormed_refuses_winr : (Instr.winr 5#8 0#16).wellFormed = false := by decide
theorem test_wellFormed_refuses_evtr : (Instr.evtr 7#8).wellFormed = false := by decide
theorem test_wellFormed_accepts_last : (Instr.cfgw 8#8 0#64).wellFormed = true ∧
    (Instr.regr 0x0C#8).wellFormed = true ∧ (Instr.winr 4#8 0#16).wellFormed = true ∧
    (Instr.evtr 6#8).wellFormed = true := by decide

/-! ## Decoding: every constructor's word, and illegal words (95 section 2.1) -/

theorem test_decode_nop : decode 0x00000000#32 7#64 = .ok .nop := by rfl
theorem test_decode_cfgw : decode 0x01010000#32 0x40#64 = .ok (.cfgw 1#8 0x40#64) := by rfl
theorem test_decode_cfgr : decode 0x02FF0000#32 0#64 = .ok (.cfgr 255#8) := by rfl
theorem test_decode_init : decode 0x03000000#32 0#64 = .ok .init := by rfl
theorem test_decode_srst : decode 0x04000000#32 0#64 = .ok .srst := by rfl
theorem test_decode_push :
    decode 0x10000000#32 0xBFF0000000000000#64 = .ok (.push 0xBFF0000000000000#64) := by rfl
theorem test_decode_proc_given :
    decode 0x11010000#32 0x4022000000000000#64 = .ok (.proc (.given 0x4022000000000000#64)) := by rfl
theorem test_decode_proc_wall : decode 0x11000000#32 0x4022000000000000#64 = .ok (.proc .wall) := by rfl
theorem test_decode_anlz : decode 0x12000000#32 0#64 = .ok .anlz := by rfl
theorem test_decode_regr : decode 0x20040000#32 0#64 = .ok (.regr 4#8) := by rfl
theorem test_decode_winr : decode 0x2105FFFF#32 0#64 = .ok (.winr 5#8 0xFFFF#16) := by rfl
theorem test_decode_evtr : decode 0x22030000#32 0#64 = .ok (.evtr 3#8) := by rfl
theorem test_decode_illegal_mustBeZero :
    decode 0x11020000#32 0#64 = .error (.mustBeZero 0x11#8) ∧ decode 0x01000001#32 0#64 = .error (.mustBeZero 1#8) ∧
    decode 0x10008000#32 0#64 = .error (.mustBeZero 0x10#8) := by exact ⟨rfl, rfl, rfl⟩
theorem test_decode_illegal_reserved : decode 0x05000000#32 0#64 = .error (.reservedOpcode 5#8) := by rfl
theorem test_decodeTableWord : decodeTableWord 32 0x2100FFFF = some (.winr 0#8 0xFFFF#16) ∧
    decodeTableWord 32 0x11010000 = some (.proc (.given 0#64)) ∧ decodeTableWord 32 0xFF000000 = none := by
  exact ⟨rfl, rfl, rfl⟩

/-! ## Assembler (R86, R87) -/

theorem test_assemble_hex_and_comment :
    assembleLine "  push 0x7FF8000000000000 ; a NaN".toList = some [.push 0x7FF8000000000000#64] := by decide +kernel
theorem test_assemble_feed : assembleLine "FEED 3, [1.0, -1.5e0], 2.5".toList =
    some [.push 0x3FF0000000000000#64, .push 0xBFF8000000000000#64, .push 0x3FF0000000000000#64,
      .proc (.given 0x4004000000000000#64)] := by decide +kernel
theorem test_assemble_config : assembleLine "CONFIG sample_rate=44100, OCC_THRESH=0.25".toList =
    some [.cfgw 0#8 44100#64, .cfgw 8#8 0x3FD0000000000000#64] := by decide +kernel
theorem test_assemble_refuses : assembleLine "CFGR 9".toList = none ∧ assembleLine "PUSH".toList = none := by
  decide +kernel

/-! ## Arithmetic -/

/-- 95 section 2.6: the mean of 1.0, 2.0 and 4.0 by the running formula is 0x4002AAAAAAAAAAAB. -/
theorem test_running_mean :
    runningMean .pure 0x3FF8000000000000#64 0x4010000000000000#64 3#64 = 0x4002AAAAAAAAAAAB#64 := by decide +kernel
/-- 5/9 as in program P3, EVTR OCC. -/
theorem test_div_five_ninths : F64.div .pure (f 5) (f 9) = 0x3FE1C71C71C71C72#64 := by decide +kernel
/-- A tie goes to the even pattern: 2^53 + 1 rounds down, 2^53 + 3 rounds up. -/
theorem test_ofNat_ties : F64.ofNat (2 ^ 53 + 1) = 0x4340000000000000#64 ∧
    F64.ofNat (2 ^ 53 + 3) = 0x4340000000000002#64 := by decide +kernel
/-- Overflow rounds to infinity, underflow to a subnormal. -/
theorem test_mul_edges : F64.mul .pure 0x7FEFFFFFFFFFFFFF#64 0x4000000000000000#64 = 0x7FF0000000000000#64 ∧
    F64.mul .pure 0x0010000000000000#64 0x3FE0000000000000#64 = 0x0008000000000000#64 := by decide +kernel
/-- sqrt 2 and sqrt 0.25. -/
theorem test_sqrt : F64.sqrt .pure (f 2) = 0x3FF6A09E667F3BCD#64 ∧
    F64.sqrt .pure 0x3FD0000000000000#64 = 0x3FE0000000000000#64 := by decide +kernel
/-- x + (−x) is +0.0 and −0.0 + −0.0 is −0.0. -/
theorem test_zero_sums : F64.add .pure (f 3) (f 3).neg = 0#64 ∧
    F64.add .pure 0x8000000000000000#64 0x8000000000000000#64 = 0x8000000000000000#64 := by decide +kernel

/-! ## The instructions, on the spec's vectors -/

theorem test_nop : reply (exec .nop State.reset) = some ⟨0x00#8, 0#64, false⟩ := by decide +kernel
/-- 95 section 2.2: BAD_SELECT outranks CFG_LOCKED. -/
theorem test_cfgw_priority : reply (exec (.cfgw 9#8 0#64) (fresh 4 [])) = some ⟨0x81#8, 0#64, false⟩ ∧
    reply (exec (.cfgw 6#8 0#64) (fresh 4 [])) = some ⟨0x83#8, 0#64, false⟩ := by decide +kernel
theorem test_cfgw_raw : (after (exec (.cfgw 1#8 0#64) State.reset)).cfg.chunkSize = 0#64 := by decide +kernel
/-- W1: LATCH_TIME after reset. -/
theorem test_cfgr_default :
    reply (exec (.cfgr 6#8) State.reset) = some ⟨0x00#8, 0x4072C00000000000#64, false⟩ := by decide +kernel
/-- 40 R105: INIT straight after reset, then STATUS is 5. -/
theorem test_init_defaults : reply (exec .init State.reset) = some ⟨0x00#8, 0#64, false⟩ ∧
    (after (exec .init State.reset)).status = 5#64 := by decide +kernel
/-- 95 section 2.2: CHUNK_SIZE = 0 and OCC_THRESH = 1.0 give the mask 0x102. -/
theorem test_init_mask : reply (exec .init { State.reset with
    cfg := { defaults with chunkSize := 0#64, occThresh := 0x3FF0000000000000#64 } }) =
      some ⟨0x84#8, 0x102#64, false⟩ := by decide +kernel
theorem test_srst : (after (exec .srst latchedState)).status = 4#64 ∧
    (after (exec .srst latchedState)).cfg = cfgE 1 := by decide +kernel
/-- 41 R120's example: the fifth PUSH of a chunk of 4. -/
theorem test_push_full : reply (exec (.push (f 1)) (fresh 4 [f 1, f 1, f 1, f 1])) = some ⟨0x85#8, 0#64, false⟩ ∧
    (after (exec (.push (f 1)) (fresh 4 [f 1, f 1, f 1, f 1]))).ovf = true := by decide +kernel
theorem test_push_order : (after (exec (.push (f 2)) (fresh 4 [f 1]))).inBuf = [f 1, f 2] := by decide +kernel
/-- F3 of 95 section 2.4: a silent chunk's peak is the first bin of the mask, 14.0. -/
theorem test_anlz_zero : (after (exec .anlz (fresh 64 (List.replicate 64 0#64)))).fe =
    ⟨0#64, 0x402C000000000000#64, 0#64, 0#64, false⟩ := by decide +kernel
theorem test_anlz_short : reply (exec .anlz (fresh 64 [0#64])) = some ⟨0x86#8, 0#64, false⟩ := by decide +kernel
/-- P1: the first PROC learns. -/
theorem test_proc_learns : reply (exec (.proc (.given 0#64)) (fresh 1 [0#64])) = some ⟨0x00#8, 2#64, false⟩ ∧
    (after (exec (.proc (.given 0#64)) (fresh 1 [0#64]))).ambCount = 1#64 := by decide +kernel
/-- W3: at 14.0 the latch of 9.0 is released, at 13.0 it is not. -/
theorem test_proc_latch : reply (exec (.proc (.given (f 14))) latchedState) = some ⟨0x00#8, 3#64, false⟩ ∧
    reply (exec (.proc (.given (f 13))) latchedState) = some ⟨0x00#8, 1#64, false⟩ := by decide +kernel
theorem test_regr_ident :
    reply (exec (.regr 0x0C#8) State.reset) = some ⟨0x00#8, 0x5344440000070001#64, false⟩ := by decide +kernel
/-- W8: LATCHED is reported as 3, with STARTED, HAS_ALARM, FE_VALID, EVT_VALID and LAST_PATH 4 (P3). -/
theorem test_regr_status_latched :
    reply (exec (.regr 0#8) { latchedState with inBuf := [] }) = some ⟨0x00#8, 0x040002BB#64, false⟩ := by
  decide +kernel
theorem test_winr : reply (exec (.winr 1#8 2#16) (activeState windowsS5c)) = some ⟨0x00#8, 1#64, false⟩ ∧
    reply (exec (.winr 0#8 10#16) (activeState windowsS5c)) = some ⟨0x81#8, 0#64, false⟩ := by decide +kernel
theorem test_evtr : reply (exec (.evtr 4#8) latchedState) = some ⟨0x00#8, 1#64, false⟩ ∧
    reply (exec (.evtr 7#8) latchedState) = some ⟨0x81#8, 0#64, false⟩ := by decide +kernel

/-! ## Classification and sustained analysis (95 sections 2.5, 2.7) -/

/-- K2, K3 and K5. -/
theorem test_strong_K2 :
    strongTest defaults .pure (F64.ratio 1 10) ⟨f 10, 0#64, F64.ratio 1 2, F64.ratio 1 10, false⟩ = true := by
  decide +kernel
theorem test_strong_K3 :
    strongTest defaults .pure (F64.ratio 2 10) ⟨f 10, 0#64, F64.ratio 1 2, F64.ratio 1 10, false⟩ = false := by
  decide +kernel
theorem test_strong_K5 :
    strongTest defaults .pure (F64.ratio 1 100) ⟨f 12, 0#64, F64.ratio 1 100, f 1, false⟩ = false := by
  decide +kernel
/-- S5c detects, and its event has confidence 1.0 and strength 1400.0. -/
theorem test_sustained_S5c : sustained defaults windowsS5c (F64.ratio 9 4) =
    some ⟨F64.ratio 1 2, f 3200, f 1400⟩ := by decide +kernel
/-- S5b: (e) fails, freqStd ≤ 10 and avgR not above 500. -/
theorem test_sustained_S5b : sustained defaults (alternating 0 [(f 3200, f 100), (f 3200, f 200), (f 3200, f 100),
    (f 3200, f 200), (f 3200, f 100)]) (F64.ratio 9 4) = none := by decide +kernel
/-- S5: (e) holds by 10 < freqStd < 100. -/
theorem test_sustained_S5 : sustained defaults (alternating 0 [(f 3180, f 100), (f 3220, f 200), (f 3180, f 100),
    (f 3220, f 200), (f 3200, f 100)]) (F64.ratio 9 4) = some ⟨F64.ratio 1 2, f 3200, f 140⟩ := by decide +kernel
/-- S7: (f) fails while (d) holds. -/
theorem test_sustained_S7 : sustained defaults (alternating 0 [(f 3200, f 600), (f 3200, f 600), (f 3200, f 600),
    (f 3200, f 600), (f 3200, f 30000)]) (F64.ratio 9 4) = none := by decide +kernel
/-- S12: the first window, 4.0 s old, is still recent. -/
theorem test_sustained_S12 : (sustained defaults windowsS5c (f 4)).isSome = true ∧
    sustained defaults windowsS5c (F64.ratio 17 4) = none := by decide +kernel

/-! ## Witnesses: a state and operands that meet the hypotheses of each statement, clause by clause -/

/-- The active state with the ring of `windowsE`, its last PROC at 2.25: a zero chunk at 2.5 detects. -/
def detecting : State := { activeState windowsE with lastTime := F64.ratio 9 4 }

/-- An instance that still learns, its first PROC at 0.0 and its last at 0.5. -/
def learningState : State :=
  { fresh 1 [0#64] with
    started := true, lastTime := 0x3FE0000000000000#64, ambCount := 2#64, feValid := true, lastPath := 2#8 }

/-- What the detection on `detecting` returns: occ 5/11. -/
def detectionE : Detection := ⟨F64.div .pure (f 5) (f 11), f 16, f 1400⟩

/-- A list of k windows 0.25 apart, all with this STRONG flag. -/
def windowRun (strong : Bool) (k : Nat) : List Window :=
  (List.range k).map fun j => ⟨F64.ratio j 4, strong, f 16, f 1000, 0#64⟩

/-- A configuration whose target band holds no bin of a chunk of one sample. -/
def emptyBand : CfgRegs := cfgE 1

/-- Configuration E with FREQ_TOL 100.0: the target band holds every bin. -/
def wideBand : CfgRegs := { cfgE 64 with freqTol := 0x4059000000000000#64 }

theorem witness_ResetInputLoadsResetValues :
    ({ latchedState with host := [.rst, .rst] } : State).host = .rst :: [.rst] := by rfl
theorem witness_StepRunsTheNextCommand_idle : latchedState.host = [] := by rfl
theorem witness_StepRunsTheNextCommand_legal :
    (latchedState.before (.command 0x21000063#32 7#64)).host = .command 0x21000063#32 7#64 :: [] ∧
    decode 0x21000063#32 7#64 = .ok (.winr 0#8 99#16) := by exact ⟨rfl, rfl⟩
theorem witness_StepRunsTheNextCommand_illegal :
    (latchedState.before (.command 0x05000000#32 0#64)).host = .command 0x05000000#32 0#64 :: [] ∧
    decode 0x05000000#32 0#64 = .error (.reservedOpcode 5#8) := by exact ⟨rfl, rfl⟩
theorem witness_StepRunsTheNextCommand_placed :
    decodeTableWord 96 0x40220000000000001101_0000 = some (.proc (.given 0x4022000000000000#64)) := by rfl
theorem witness_EncodingExamplesOfR88 :
    0x05000000#32 ∈ [0x11030000#32, 0x20000001#32, 0x05000000#32] := by decide
theorem witness_EncodeOfDecode : decode 0x11000000#32 5#64 = .ok (.proc .wall) := by rfl
theorem witness_DecodingSelectsOneRow_selected :
    (⟨.winr, 0x21000000#32, 0xFF000000#32⟩ : OpcodeRow) ∈ opcodeMap ∧
    (⟨.winr, 0x21000000#32, 0xFF000000#32⟩ : OpcodeRow).selects 0x21FFFFFF#32 = true := by decide
theorem witness_DecodingSelectsOneRow_illegal :
    ∀ r ∈ opcodeMap, 0xFFFFFFFF#32 &&& r.mask ≠ r.pattern := by decide
theorem witness_DecodingSelectsOneRow_badSelect :
    decode 0x01090000#32 0#64 = .ok (.cfgw 9#8 0#64) ∧ (Instr.cfgw 9#8 0#64).wellFormed = false := by
  exact ⟨rfl, by decide⟩

theorem witness_CfgwStoresOrRefuses_select : 8 < (9#8 : BitVec 8).toNat ∧ 8 < (255#8 : BitVec 8).toNat := by decide
theorem witness_CfgwStoresOrRefuses_locked : (8#8 : BitVec 8).toNat ≤ 8 ∧ latchedState.configured = true := by decide
theorem witness_CfgwStoresOrRefuses_stored : State.reset.configured = false := by decide
theorem witness_CfgrReturnsStoredBits : 8 < (9#8 : BitVec 8).toNat := by decide
theorem witness_InitBuildsCleanInstance_locked : (fresh 1 []).configured = true := by decide
theorem witness_InitBuildsCleanInstance_invalid :
    ({ State.reset with cfg := cfgE 0 } : State).configured = false ∧
    ({ State.reset with cfg := cfgE 0 } : State).cfg.check ≠ 0#64 := by decide +kernel
theorem witness_InitBuildsCleanInstance_built :
    ({ State.reset with cfg := cfgE 1 } : State).configured = false ∧
    ({ State.reset with cfg := cfgE 1 } : State).cfg.check = 0#64 := by decide +kernel
theorem witness_ConfigCheckMask : 9 ≤ 9 := by decide
theorem witness_SrstThenInitIsFreshInstance : latchedState.cfg.check = 0#64 := by decide +kernel

theorem witness_PushAppendsOrRefuses_unconfigured : State.reset.configured = false := by decide
theorem witness_PushAppendsOrRefuses_full :
    (fresh 1 [0#64]).configured = true ∧ (fresh 1 [0#64]).fill = (fresh 1 [0#64]).chunkLen := by decide
theorem witness_PushAppendsOrRefuses_room :
    (fresh 1 []).configured = true ∧ (fresh 1 []).fill ≠ (fresh 1 []).chunkLen := by decide
theorem witness_PushesDeliverChunkInOrder :
    (fresh 4 [f 1]).configured = true ∧ (fresh 4 [f 1]).fill + [f 2, f 3, f 4].length ≤ (fresh 4 [f 1]).chunkLen := by
  decide
theorem witness_AnlzRunsFrontend_unconfigured : State.reset.configured = false := by decide
theorem witness_AnlzRunsFrontend_short :
    (fresh 2 [0#64]).configured = true ∧ (fresh 2 [0#64]).fill ≠ (fresh 2 [0#64]).chunkLen := by decide
theorem witness_AnlzRunsFrontend_overLong :
    ({ fresh 1 [0#64] with ovf := true } : State).configured = true ∧
    ({ fresh 1 [0#64] with ovf := true } : State).ovf = true := by decide
theorem witness_AnlzRunsFrontend_run :
    (fresh 1 [0#64]).configured = true ∧ (fresh 1 [0#64]).fill = (fresh 1 [0#64]).chunkLen ∧
    (fresh 1 [0#64]).ovf = false := by decide
theorem witness_SpecmagMeetsItsProperties_finite :
    ∀ v ∈ ([f 1, 0x7FEFFFFFFFFFFFFF#64] : List F64), F64.isFinite v = true :=
  List.all_eq_true.mp (by decide +kernel)
theorem witness_SpecmagMeetsItsProperties_zero :
    ∀ v ∈ ([0#64, 0x8000000000000000#64] : List F64), F64.isZero v = true :=
  List.all_eq_true.mp (by decide +kernel)
/-- The accuracy premise of R132 item 4 can be met: it holds of a silent chunk. -/
theorem witness_SpecmagAccurate : SpecmagAccurate [0#64, 0#64] := by
  have hzero : F64.toReal 0#64 = 0 := by
    have h : F64.signedUnits 0#64 = 0 := by decide
    simp [F64.toReal, F64.toRat, h]
  intro k _
  have hmag : specmag [0#64, 0#64] k = 0#64 := rfl
  have href : refMagnitude Config.hannVariant [0#64, 0#64] k = 0 := by
    simp [refMagnitude, Finset.sum_range_succ, hzero]
  rw [hmag, href, hzero]
  norm_num [hzero]
theorem witness_PeakIsLowestIndexMaximum_none :
    targetBins emptyBand (chunkBins emptyBand [0#64]) = [] := by decide +kernel
theorem witness_PeakIsLowestIndexMaximum_some :
    (targetBins (cfgE 64) (chunkBins (cfgE 64) [0#64])).head? = some ⟨f 14, 0#64⟩ := by decide +kernel
/-- A NaN in front stays, one behind never replaces, and of two equal maxima the first wins. -/
theorem witness_PeakIsLowestIndexMaximum_bins :
    peakFrom ⟨f 1, 0x7FF8000000000000#64⟩ [⟨f 2, f 9⟩] = ⟨f 1, 0x7FF8000000000000#64⟩ ∧
    peakFrom ⟨f 1, f 3⟩ [⟨f 2, 0x7FF8000000000000#64⟩, ⟨f 3, f 5⟩, ⟨f 4, f 5⟩] = ⟨f 3, f 5⟩ := by decide +kernel
/-- The configurations of 95 vectors with a band and with a band over every bin (F5): a complement, and none. -/
theorem witness_EmptyBandGivesSentinel_others :
    otherBins (cfgE 64) (chunkBins (cfgE 64) [0#64]) ≠ [] ∧
    otherBins wideBand (chunkBins wideBand [0#64]) = [] ∧
    targetBins emptyBand (chunkBins emptyBand [0#64]) = [] := by decide +kernel
theorem witness_SilentChunkHasZeroResult : ∀ v ∈ List.replicate 64 (0#64 : F64), F64.isZero v = true :=
  List.all_eq_true.mp (by decide +kernel)
theorem witness_HannWindowEnds : 2 ≤ 2 := by decide

theorem witness_ProcRejectsInOrder_unconfigured : State.reset.configured = false := by decide
theorem witness_ProcRejectsInOrder_short :
    (fresh 2 [0#64]).configured = true ∧ (fresh 2 [0#64]).fill ≠ (fresh 2 [0#64]).chunkLen := by decide
theorem witness_ProcRejectsInOrder_overLong :
    ({ fresh 1 [0#64] with ovf := true } : State).configured = true ∧
    ({ fresh 1 [0#64] with ovf := true } : State).ovf = true := by decide
theorem witness_ProcRejectsInOrder_notFinite :
    (fresh 1 [0#64]).configured = true ∧ (fresh 1 [0#64]).fill = (fresh 1 [0#64]).chunkLen ∧
    (fresh 1 [0#64]).ovf = false ∧
    ((fresh 1 [0#64]).stampTime (.given 0x7FF0000000000000#64)).isFinite = false := by decide +kernel
theorem witness_ProcRejectsInOrder_decreasing :
    latchedState.configured = true ∧ latchedState.fill = latchedState.chunkLen ∧ latchedState.ovf = false ∧
    latchedState.started = true ∧
    F64.ge (latchedState.stampTime (.given 0x4021FFFFFFFFFFFF#64)) latchedState.lastTime = false := by decide +kernel

/-- The stamps of the witnesses below are accepted, the last one equal to LAST_TIME. -/
theorem accepts_fresh : (fresh 1 [0#64]).Accepts (f 7) := by constructor <;> decide +kernel
theorem accepts_learning : learningState.Accepts 0x3FE0000000000000#64 := by constructor <;> decide +kernel
theorem accepts_learned : learningState.Accepts (f 1) := by constructor <;> decide +kernel
theorem accepts_active : (activeState []).Accepts (f 9) := by constructor <;> decide +kernel
theorem accepts_latched : latchedState.Accepts (f 13) := by constructor <;> decide +kernel
theorem accepts_released : latchedState.Accepts (f 14) := by constructor <;> decide +kernel
theorem accepts_detecting : detecting.Accepts (F64.ratio 5 2) := by constructor <;> decide +kernel

theorem witness_ProcSuppressedByLatch :
    latchedState.Accepts (latchedState.stampTime (.given (f 13))) ∧
    latchedState.InForce (latchedState.stampTime (.given (f 13))) :=
  ⟨accepts_latched, by decide, by decide +kernel⟩
theorem witness_ProcLearnsAmbient :
    (fresh 1 [0#64]).Accepts ((fresh 1 [0#64]).stampTime (.given (f 7))) ∧
    ¬ (fresh 1 [0#64]).InForce ((fresh 1 [0#64]).stampTime (.given (f 7))) ∧
    (fresh 1 [0#64]).Learns ((fresh 1 [0#64]).stampTime (.given (f 7))) :=
  ⟨accepts_fresh, fun h => absurd h.1 (by decide), by decide, by decide +kernel⟩
theorem not_learns_one : ¬ learningState.Learns (f 1) := fun h => absurd h.2 (by decide +kernel)
theorem witness_ProcClassifiesWithoutDetection :
    learningState.Accepts (learningState.stampTime (.given (f 1))) ∧
    ¬ learningState.InForce (learningState.stampTime (.given (f 1))) ∧
    ¬ learningState.Learns (learningState.stampTime (.given (f 1))) ∧
    sustained learningState.cfg (learningState.windowsAfter (learningState.stampTime (.given (f 1))))
      (learningState.stampTime (.given (f 1))) = none :=
  ⟨accepts_learned, fun h => absurd h.1 (by decide), not_learns_one, by decide +kernel⟩
theorem witness_ProcDetects :
    detecting.Accepts (detecting.stampTime (.given (F64.ratio 5 2))) ∧
    ¬ detecting.InForce (detecting.stampTime (.given (F64.ratio 5 2))) ∧
    ¬ detecting.Learns (detecting.stampTime (.given (F64.ratio 5 2))) ∧
    sustained detecting.cfg (detecting.windowsAfter (detecting.stampTime (.given (F64.ratio 5 2))))
      (detecting.stampTime (.given (F64.ratio 5 2))) = some detectionE :=
  ⟨accepts_detecting, fun h => absurd h.1 (by decide), fun h => absurd h.1 (by decide), by decide +kernel⟩
theorem witness_ProcWallUsesTheDraw :
    (activeState []).configured = true ∧ (activeState []).fill = (activeState []).chunkLen ∧
    (activeState []).ovf = false := by decide
theorem witness_RingBufferAppends_full : (windowRun true 100).length ≤ 100 ∧ (windowRun true 100).length = 100 ∧
    98 < 99 := by decide +kernel
theorem witness_RingBufferAppends_room : (windowRun true 99).length ≤ 100 ∧ (windowRun true 99).length < 100 ∧
    98 < (windowRun true 99).length := by decide +kernel
theorem witness_RunningMeanIsExact : (f 7).isFinite = true ∧ f 7 ≠ 0x8000000000000000#64 ∧ (1#64 : U64) ≠ 0#64 := by
  decide +kernel

theorem witness_DetectionNeedsFiveOfSeven : windowsS5c.length ≤ 100 ∧
    sustained defaults windowsS5c (F64.ratio 9 4) = some ⟨F64.ratio 1 2, f 3200, f 1400⟩ := by decide +kernel
theorem witness_AllStrongNeverDetects : (windowRun true 8).length ≤ 100 ∧
    (∀ w ∈ windowRun true 8, Window.recent (cfgE 64) (f 2) w = true → w.strong = true) ∧
    (windowRun true 8).filter (Window.recent (cfgE 64) (f 2)) ≠ [] := by decide +kernel
theorem witness_HighThresholdNeverDetects : F64.gt (F64.ratio 9 10) 0x3FE999999999999A#64 = true ∧
    F64.lt (F64.ratio 9 10) 0x3FF0000000000000#64 = true ∧
    F64.gt 0x3FE999999999999B#64 0x3FE999999999999A#64 = true := by decide +kernel
theorem witness_HighThresholdNeverDetects_proc : F64.gt 0x3FE999999999999B#64 0x3FE999999999999A#64 = true ∧
    reply (exec (.proc (.given (F64.ratio 5 2)))
      { detecting with cfg := { cfgE 1 with occThresh := 0x3FE999999999999B#64 } }) =
      some ⟨0x00#8, 3#64, false⟩ := by decide +kernel
theorem witness_ConfidenceRange_half : sustained defaults windowsS5c (F64.ratio 9 4) =
      some ⟨F64.ratio 1 2, f 3200, f 1400⟩ ∧ F64.ge (F64.ratio 1 2) 0x3FE0000000000000#64 = true := by decide +kernel
theorem witness_ConfidenceRange_below : sustained detecting.cfg (detecting.windowsAfter (F64.ratio 5 2))
      (F64.ratio 5 2) = some detectionE ∧ F64.lt detectionE.occ 0x3FE0000000000000#64 = true := by decide +kernel
theorem witness_DecisionPredicate :
    decideDetection defaults (F64.ratio 1 2) (f 3200) (f 20) (f 140) (F64.ratio 1 2) 5 = true := by decide +kernel
/-- Five windows of which three are recent at 4.5 and two of these strong: each count at its bound. -/
def boundRun : List Window := windowRun true 4 ++ (windowRun false 5).drop 4

theorem witness_DecisionPredicate_enough : 5 ≤ boundRun.length ∧
    3 ≤ (boundRun.filter (Window.recent defaults (F64.ratio 9 2))).length ∧
    2 ≤ ((boundRun.filter (Window.recent defaults (F64.ratio 9 2))).filter Window.strong).length := by decide +kernel
/-- One short of each count: four windows; two recent ones; one strong one. -/
theorem witness_DecisionPredicate_short : (windowRun true 4).length < 5 ∧
    (boundRun.filter (Window.recent defaults (F64.ratio 19 4))).length < 3 ∧
    ((windowRun false 5 ++ windowRun true 1).filter Window.strong).length < 2 := by decide +kernel

theorem witness_RegrReadsStatusSpace : 0x0C < (0x0D#8 : BitVec 8).toNat := by decide
theorem witness_WinrReadsWindows_held :
    (activeState windowsS5c).windows[(9#16 : BitVec 16).toNat]? = windowsS5c.getLast? ∧
    windowsS5c.getLast?.isSome = true := by decide +kernel
theorem witness_WinrReadsWindows_badSelect : 4 < (5#8 : BitVec 8).toNat ∧
    (activeState windowsS5c).windows.length ≤ (10#16 : BitVec 16).toNat := by decide +kernel
theorem witness_EvtrReadsEventRegisters : 6 < (7#8 : BitVec 8).toNat := by decide

theorem witness_ErrorsArePrecise_ok :
    reply (issue 0x00000000#32 5#64 latchedState) = some ⟨0x00#8, 0#64, false⟩ ∧ isErrorCode 0x00#8 = false := by
  decide +kernel
theorem witness_ErrorsArePrecise_illegal :
    reply (issue 0x05000000#32 0#64 latchedState) = some ⟨0x80#8, 0#64, false⟩ ∧ isErrorCode 0x80#8 = true := by
  decide +kernel
theorem witness_ErrorsArePrecise_configInvalid :
    reply (issue 0x03000000#32 0#64 { State.reset with cfg := cfgE 0 }) = some ⟨0x84#8, 2#64, false⟩ ∧
    isErrorCode 0x84#8 = true := by decide +kernel
theorem witness_ErrorsArePrecise_bufFull :
    reply (issue 0x10000000#32 0#64 (fresh 1 [0#64])) = some ⟨0x85#8, 0#64, false⟩ ∧ isErrorCode 0x85#8 = true := by
  decide +kernel
theorem witness_ErrorsArePrecise_wrongLength :
    reply (issue 0x11000000#32 0#64 (fresh 2 [0#64])) = some ⟨0x86#8, 0#64, false⟩ ∧ isErrorCode 0x86#8 = true := by
  decide +kernel
theorem witness_ErrorsArePrecise_timestamp :
    reply (issue 0x11010000#32 0x4020000000000000#64 latchedState) = some ⟨0x87#8, 0#64, false⟩ ∧
    isErrorCode 0x87#8 = true := by decide +kernel
theorem witness_EvtStrobeAndPathCodes_event :
    reply (issue 0x11010000#32 0x4004000000000000#64 detecting) = some ⟨0x01#8, 4#64, true⟩ ∧
    reply (exec (.proc (.given 0x4004000000000000#64)) detecting) = some ⟨0x01#8, 4#64, true⟩ ∧
    isErrorCode 0x01#8 = false := by decide +kernel
theorem witness_EvtStrobeAndPathCodes_ok :
    reply (exec (.proc (.given (f 13))) latchedState) = some ⟨0x00#8, 1#64, false⟩ ∧
    isErrorCode 0x00#8 = false := by decide +kernel
theorem witness_OnlyDetectionWritesEvent :
    (after (exec (.proc (.given (F64.ratio 5 2))) detecting)).evt ≠ detecting.evt ∧ detecting.latch = false ∧
    (after (exec (.proc (.given (F64.ratio 5 2))) detecting)).latch = true := by decide +kernel
theorem witness_ConfigurationIsConstant_refused :
    latchedState.configured = true ∧ (8#8 : BitVec 8).toNat ≤ 8 := by decide
theorem witness_ConfigurationIsConstant_configured :
    exec (.cfgw 8#8 0#64) latchedState = .next (latchedState.raisedWith 0x83#8 0#64) ∧
    latchedState.configured = true := ⟨rfl, rfl⟩
theorem witness_ConfigurationIsConstant_changed :
    (after (exec (.cfgw 8#8 0#64) State.reset)).cfg ≠ State.reset.cfg := by decide +kernel
theorem witness_LearningEndsOnce_ends :
    learningState.started = true ∧ learningState.learn = true ∧
    (after (exec (.proc (.given (f 1))) learningState)).started = true ∧
    (after (exec (.proc (.given (f 1))) learningState)).learn = false := by decide +kernel
theorem witness_LearningEndsOnce_returns :
    latchedState.learn = false ∧ (after (exec .srst latchedState)).learn = true := by decide +kernel
theorem witness_LearningEndsOnce_settled :
    latchedState.learn = false ∧ Instr.proc (.given (f 14)) ≠ .init ∧ Instr.proc (.given (f 14)) ≠ .srst := by
  decide +kernel
theorem witness_BadSelectExactly :
    reply (exec (.winr 4#8 0#16) State.reset) = some ⟨0x81#8, 0#64, false⟩ ∧ State.reset.winCount ≤ (0#16).toNat := by
  decide +kernel

/-! Invariants: one state of every mode. -/

theorem witness_Inv_reset : State.reset.Inv := by constructor <;> decide
theorem witness_Inv_fresh : (fresh 1 [0#64]).Inv := by constructor <;> decide +kernel
theorem witness_Inv_learning : learningState.Inv := by constructor <;> decide +kernel
theorem witness_Inv_active : detecting.Inv := by constructor <;> decide +kernel
theorem witness_Inv_latched : latchedState.Inv := by constructor <;> decide +kernel

theorem witness_ModeTransitions_learning :
    (fresh 1 [0#64]).mode = .learning ∧ (fresh 1 [0#64]).Learns (f 7) := ⟨by decide, by decide, by decide +kernel⟩
theorem witness_ModeTransitions_learningEnds : learningState.mode = .learning ∧ ¬ learningState.Learns (f 1) :=
  ⟨by decide, not_learns_one⟩
theorem witness_ModeTransitions_detection :
    detecting.mode = .active ∧
    (after (exec (.proc (.given (F64.ratio 5 2))) detecting)).resp = some ⟨0x01#8, 4#64, true⟩ := by decide +kernel
theorem witness_ModeTransitions_noDetection :
    (activeState []).mode = .active ∧
    (after (exec (.proc (.given (f 9))) (activeState []))).resp ≠ some ⟨0x01#8, 4#64, true⟩ := by decide +kernel
theorem witness_ModeTransitions_inForce : latchedState.mode = .latched ∧ latchedState.InForce (f 13) :=
  ⟨by decide, by decide, by decide +kernel⟩
theorem witness_ModeTransitions_released : latchedState.mode = .latched ∧ ¬ latchedState.InForce (f 14) :=
  ⟨by decide, fun h => absurd h.2 (by decide +kernel)⟩
theorem witness_ModeTransitions_init :
    State.reset.mode = .unconfigured ∧ State.reset.cfg.check = 0#64 ∧
    reply (exec .init State.reset) = some ⟨0x00#8, 0#64, false⟩ := by decide +kernel
theorem witness_NoEventWhileLatched :
    latchedState.latch = true ∧ .srst ∉ [Instr.nop, .proc (.given (f 13)), .init] ∧
    .proc .wall ∉ [Instr.nop, .proc (.given (f 13)), .init] ∧
    F64.lt (F64.sub .pure (f 13) latchedState.lastAlarmTime) latchedState.cfg.latchTime = true ∧
    reply (runCommands [Instr.nop, .proc (.given (f 13)), .init] latchedState) = some ⟨0x83#8, 0#64, false⟩ := by
  decide +kernel
theorem witness_InvariantKeptByEveryStep :
    detecting.Inv ∧ step detecting = .next detecting := ⟨witness_Inv_active, by rfl⟩
theorem witness_LearningIsCounted :
    learningState.Inv ∧ learningState.Counted ∧ learningState.ambCount ≠ 0xFFFFFFFFFFFFFFFF#64 ∧
    detecting.Inv ∧ detecting.Counted ∧ detecting.configured = true ∧ detecting.learn = false :=
  ⟨witness_Inv_learning, fun _ => by decide, by decide, witness_Inv_active, fun _ => by decide, by decide, by decide⟩
theorem witness_StrongWindowsStayInBand : detecting.Inv ∧ detecting.StrongSound :=
  ⟨witness_Inv_active, by unfold State.StrongSound; decide +kernel⟩
theorem witness_EventAndCodesStaySound : latchedState.Inv ∧ latchedState.EventSound ∧ latchedState.CodesSound :=
  ⟨witness_Inv_latched, ⟨by decide, by decide +kernel, by decide⟩, ⟨by decide, by decide, by decide⟩⟩

/-! Arithmetic. -/

theorem witness_SumsAreCorrectlyRounded : (f 1).isFinite = true ∧ F64.isFinite 0x7FEFFFFFFFFFFFFF#64 = true := by
  decide +kernel
theorem witness_ProductsAreCorrectlyRounded :
    (f 1).isFinite = true ∧ F64.isFinite 0x0000000000000001#64 = true ∧
    F64.isZero 0x0000000000000001#64 = false := by decide +kernel
theorem witness_RootsAreCorrectlyRounded : F64.isFinite 0x0000000000000001#64 = true ∧
    F64.sign 0x0000000000000001#64 = false ∧ F64.isFinite 0x8000000000000000#64 = true ∧
    F64.isZero 0x8000000000000000#64 = true := by decide +kernel
theorem witness_ConversionsAreCorrectlyRounded : (10000000000 : Nat) ≠ 0 := by decide
theorem witness_SpecialOperands_nan : F64.isNaN 0x7FF0000000000001#64 = true := by decide +kernel
theorem witness_SpecialOperands_negative : F64.isNaN 0x8000000000000001#64 = false ∧
    F64.sign 0x8000000000000001#64 = true ∧ F64.isZero 0x8000000000000001#64 = false := by decide +kernel
theorem witness_SpecialOperands_zero : F64.isZero 0x8000000000000000#64 = true ∧ F64.isZero 0#64 = true ∧
    F64.isFinite 0#64 = true ∧ F64.isFinite 0x0000000000000001#64 = true ∧
    F64.isZero 0x0000000000000001#64 = false := by decide +kernel
theorem witness_SpecialOperands_infinite : F64.isInf 0xFFF0000000000000#64 = true ∧
    F64.isInf 0x7FF0000000000000#64 = true ∧ F64.sign 0x7FF0000000000000#64 = false ∧
    F64.sign 0xFFF0000000000000#64 ≠ F64.sign 0x7FF0000000000000#64 ∧
    F64.isNaN 0xFFF0000000000000#64 = false ∧ F64.isZero 0xFFF0000000000000#64 = false := by decide +kernel
theorem witness_SpecialOperands_sign : (F64.mul .pure (f 1).neg 0#64).isNaN = false ∧
    (F64.div .pure (f 1) 0x8000000000000000#64).isNaN = false := by decide +kernel
theorem witness_ComparisonsAreTheRealOrder :
    F64.isFinite 0x8000000000000000#64 = true ∧ F64.isFinite 0#64 = true := by decide +kernel

end Sys2Proof.Tests
end

section
/-! PROOFS. A binary64 pattern as its sign bit and its magnitude bits: each test of R10 and R11 on a pattern is a
comparison of the magnitude bits, and packing a sign with magnitude bits gives both back. -/

namespace Sys2Proof

theorem F64.toNat_eq (a : F64) : a.toNat = (if a.sign then 2 ^ 63 else 0) + a.magBits := by
  have hmsb : a.sign = decide (2 ^ 63 ≤ a.toNat) := (BitVec.msb_eq_getLsbD_last a).symm.trans (BitVec.msb_eq_decide a)
  have hlt := a.isLt
  rw [hmsb, F64.magBits]
  split <;> simp_all <;> omega

theorem F64.magBits_lt (a : F64) : a.magBits < 2 ^ 63 := Nat.mod_lt _ (by decide)

/-- Two patterns with the same sign and the same magnitude bits are the same pattern. -/
theorem F64.ext_sign_magBits {a b : F64} (hs : a.sign = b.sign) (hm : a.magBits = b.magBits) : a = b :=
  BitVec.eq_of_toNat_eq (by rw [F64.toNat_eq, F64.toNat_eq b, hs, hm])

theorem F64.expField_eq (a : F64) : a.expField = a.magBits / 2 ^ 52 := by
  rw [F64.expField, F64.magBits, Nat.shiftRight_eq_div_pow]
  omega

theorem F64.frac_eq (a : F64) : a.frac = a.magBits % 2 ^ 52 := by
  rw [F64.frac, F64.magBits]
  omega

theorem F64.infBits_eq : F64.infBits = 2047 * 2 ^ 52 := rfl

/-! ## The tests on a pattern -/

theorem F64.isFinite_iff (a : F64) : a.isFinite = true ↔ a.magBits < F64.infBits := by
  have := a.magBits_lt
  rw [F64.isFinite, bne_iff_ne, F64.expField_eq, F64.infBits_eq]
  omega

theorem F64.isInf_iff (a : F64) : a.isInf = true ↔ a.magBits = F64.infBits := by
  rw [F64.isInf, Bool.and_eq_true, beq_iff_eq, beq_iff_eq, F64.expField_eq, F64.frac_eq, F64.infBits_eq]
  omega

theorem F64.isNaN_iff (a : F64) : a.isNaN = true ↔ F64.infBits < a.magBits := by
  have := a.magBits_lt
  rw [F64.isNaN, Bool.and_eq_true, beq_iff_eq, bne_iff_ne, F64.expField_eq, F64.frac_eq, F64.infBits_eq]
  omega

theorem F64.isZero_iff (a : F64) : a.isZero = true ↔ a.magBits = 0 := beq_iff_eq

theorem F64.isInf_of_isFinite {a : F64} (h : a.isFinite = true) : a.isInf = false := by
  rw [F64.isFinite_iff] at h
  rw [← Bool.not_eq_true, F64.isInf_iff]
  omega

theorem F64.isNaN_of_isInf {a : F64} (h : a.isInf = true) : a.isNaN = false := by
  rw [F64.isInf_iff] at h
  rw [← Bool.not_eq_true, F64.isNaN_iff]
  omega

theorem F64.isZero_of_isInf {a : F64} (h : a.isInf = true) : a.isZero = false := by
  rw [F64.isInf_iff, F64.infBits_eq] at h
  rw [← Bool.not_eq_true, F64.isZero_iff]
  omega

theorem F64.isFinite_of_isZero {a : F64} (h : a.isZero = true) : a.isFinite = true := by
  rw [F64.isZero_iff] at h
  rw [F64.isFinite_iff, h, F64.infBits_eq]
  decide

theorem F64.isNaN_of_isZero {a : F64} (h : a.isZero = true) : a.isNaN = false :=
  F64.isNaN_of_isFinite (F64.isFinite_of_isZero h)

theorem F64.isInf_of_isZero {a : F64} (h : a.isZero = true) : a.isInf = false :=
  F64.isInf_of_isFinite (F64.isFinite_of_isZero h)

/-! ## Packing, negating, the free NaN -/

theorem F64.pack_toNat {neg : Bool} {m : Nat} (h : m < 2 ^ 63) :
    (F64.pack neg m).toNat = (if neg then 2 ^ 63 else 0) + m := by
  rw [F64.pack, BitVec.toNat_ofNat]
  cases neg <;> simp <;> omega

theorem F64.pack_magBits {neg : Bool} {m : Nat} (h : m < 2 ^ 63) : (F64.pack neg m).magBits = m := by
  rw [F64.magBits, F64.pack_toNat h]
  cases neg <;> simp <;> omega

theorem F64.pack_sign {neg : Bool} {m : Nat} (h : m < 2 ^ 63) : (F64.pack neg m).sign = neg := by
  have hnat := F64.toNat_eq (F64.pack neg m)
  rw [F64.pack_magBits h, F64.pack_toNat h] at hnat
  cases neg <;> cases hs : (F64.pack _ m).sign <;> simp [hs] at hnat ⊢

theorem F64.infBits_lt : F64.infBits < 2 ^ 63 := by decide

@[simp] theorem F64.inf_magBits (neg : Bool) : (F64.inf neg).magBits = F64.infBits := F64.pack_magBits F64.infBits_lt
@[simp] theorem F64.inf_sign (neg : Bool) : (F64.inf neg).sign = neg := F64.pack_sign F64.infBits_lt
@[simp] theorem F64.inf_isInf (neg : Bool) : (F64.inf neg).isInf = true := by simp [F64.isInf_iff]

@[simp] theorem F64.zero_magBits (neg : Bool) : (F64.zero neg).magBits = 0 := F64.pack_magBits (by decide)
@[simp] theorem F64.zero_sign (neg : Bool) : (F64.zero neg).sign = neg := F64.pack_sign (by decide)
@[simp] theorem F64.zero_isZero (neg : Bool) : (F64.zero neg).isZero = true := by simp [F64.isZero_iff]

theorem F64.round_bits_lt (num den : Nat) : Min.min F64.infBits (F64.roundMag num den) < 2 ^ 63 :=
  (min_le_left _ _).trans_lt F64.infBits_lt

@[simp] theorem F64.round_magBits (neg : Bool) (num den : Nat) :
    (F64.round neg num den).magBits = Min.min F64.infBits (F64.roundMag num den) :=
  F64.pack_magBits (F64.round_bits_lt num den)

@[simp] theorem F64.round_sign (neg : Bool) (num den : Nat) : (F64.round neg num den).sign = neg :=
  F64.pack_sign (F64.round_bits_lt num den)

@[simp] theorem F64.neg_magBits (a : F64) : a.neg.magBits = a.magBits := by
  rw [F64.magBits, F64.magBits, F64.neg, ← BitVec.toNat_setWidth, ← BitVec.toNat_setWidth, BitVec.setWidth_xor]
  simp

@[simp] theorem F64.neg_sign (a : F64) : a.neg.sign = !a.sign := by
  simp [F64.neg, F64.sign]

@[simp] theorem F64.neg_isNaN (a : F64) : a.neg.isNaN = a.isNaN := by
  rw [Bool.eq_iff_iff, F64.isNaN_iff, F64.isNaN_iff, F64.neg_magBits]

@[simp] theorem F64.neg_isInf (a : F64) : a.neg.isInf = a.isInf := by
  rw [Bool.eq_iff_iff, F64.isInf_iff, F64.isInf_iff, F64.neg_magBits]

@[simp] theorem F64.neg_isFinite (a : F64) : a.neg.isFinite = a.isFinite := by
  rw [Bool.eq_iff_iff, F64.isFinite_iff, F64.isFinite_iff, F64.neg_magBits]

/-- Setting the exponent bits and the top fraction bit of any pattern makes it a NaN. -/
theorem F64.isNaN_or_quiet (v : F64) : (v ||| 0x7FF8000000000000#64).isNaN = true := by
  have hbits : ((v ||| 0x7FF8000000000000#64).extractLsb' 51 12).toNat = 2 ^ 12 - 1 := by
    have : (v ||| 0x7FF8000000000000#64).extractLsb' 51 12 = 0xFFF#12 := by
      rw [BitVec.extractLsb'_or, show BitVec.extractLsb' 51 12 0x7FF8000000000000#64 = BitVec.allOnes 12 by decide,
        BitVec.or_allOnes]
      rfl
    rw [this]; rfl
  rw [BitVec.extractLsb'_toNat, Nat.shiftRight_eq_div_pow] at hbits
  rw [F64.isNaN_iff, F64.magBits, F64.infBits_eq]
  omega

@[simp] theorem F64.nan_isNaN (site : NanSite) (op : FOp) (a b : F64) : (F64.nan site op a b).isNaN = true := by
  rw [F64.nan]
  split
  case isTrue h => exact h
  case isFalse => exact F64.isNaN_or_quiet _

end Sys2Proof
end

section
/-! PROOFS. The finite values as a scale: magnitude bits counted in units of 2^-1074 grow strictly with the bits, so
the order of the keys is the order of the real values (spec 00 R10). -/

namespace Sys2Proof

/-- The units of 2^-1074 that magnitude bits stand for, `F64.units` as a function of the magnitude bits alone. It
goes on past the infinity, as if the exponent had no bound. -/
def F64.unitsOf (m : Nat) : Nat :=
  if m / 2 ^ 52 = 0 then m % 2 ^ 52 else (2 ^ 52 + m % 2 ^ 52) * 2 ^ (m / 2 ^ 52 - 1)

theorem F64.units_eq (a : F64) : a.units = F64.unitsOf a.magBits := by
  rw [F64.units, F64.unitsOf, F64.expField_eq, F64.frac_eq, Nat.shiftLeft_eq]

/-- On each binade, its upper end included, the units are equally spaced: `m` steps of 2^e. -/
theorem F64.unitsOf_binade {e m : Nat} (hlo : e = 0 ∨ 2 ^ 52 ≤ m) (hhi : m ≤ 2 ^ 53) :
    F64.unitsOf (e * 2 ^ 52 + m) = m * 2 ^ e := by
  rcases lt_or_ge m (2 ^ 52) with hsub | hnorm
  case inl =>
    obtain rfl : e = 0 := by omega
    have hdiv : (0 * 2 ^ 52 + m) / 2 ^ 52 = 0 := by omega
    rw [F64.unitsOf, if_pos hdiv]
    omega
  case inr =>
    rcases hhi.lt_or_eq with hlt | rfl
    · have hdiv : (e * 2 ^ 52 + m) / 2 ^ 52 = e + 1 := by omega
      have hmod : 2 ^ 52 + (e * 2 ^ 52 + m) % 2 ^ 52 = m := by omega
      rw [F64.unitsOf, hdiv, if_neg e.succ_ne_zero, hmod, Nat.add_sub_cancel]
    · have hdiv : (e * 2 ^ 52 + 2 ^ 53) / 2 ^ 52 = e + 1 + 1 := by omega
      have hmod : 2 ^ 52 + (e * 2 ^ 52 + 2 ^ 53) % 2 ^ 52 = 2 ^ 52 := by omega
      rw [F64.unitsOf, hdiv, if_neg (e + 1).succ_ne_zero, hmod, Nat.add_sub_cancel]
      ring

/-- Every number of magnitude bits lies in a binade, below its upper end. -/
theorem F64.exists_binade (n : Nat) : ∃ e m, n = e * 2 ^ 52 + m ∧ (e = 0 ∨ 2 ^ 52 ≤ m) ∧ m < 2 ^ 53 :=
  ⟨n / 2 ^ 52 - 1, n - (n / 2 ^ 52 - 1) * 2 ^ 52, by omega, by omega, by omega⟩

theorem F64.unitsOf_strictMono : StrictMono F64.unitsOf := by
  refine strictMono_nat_of_lt_succ fun n => ?_
  obtain ⟨e, m, rfl, hlo, hhi⟩ := F64.exists_binade n
  rw [F64.unitsOf_binade hlo hhi.le, Nat.add_assoc, F64.unitsOf_binade (by omega) hhi]
  exact Nat.mul_lt_mul_of_pos_right m.lt_succ_self (by positivity)

@[simp] theorem F64.unitsOf_zero : F64.unitsOf 0 = 0 := rfl

theorem F64.unitsOf_eq_zero {n : Nat} : F64.unitsOf n = 0 ↔ n = 0 :=
  F64.unitsOf_strictMono.injective.eq_iff' F64.unitsOf_zero

/-! ## The real value of a pattern -/

theorem F64.toReal_eq (a : F64) : a.toReal = (a.signedUnits : ℝ) / 2 ^ 1074 := by
  rw [F64.toReal, F64.toRat]
  push_cast
  rfl

theorem F64.abs_toReal (a : F64) : |a.toReal| = (F64.unitsOf a.magBits : ℝ) / 2 ^ 1074 := by
  have hpos : (0 : ℝ) < 2 ^ 1074 := by positivity
  rw [F64.toReal_eq, abs_div, abs_of_pos hpos, F64.signedUnits, F64.units_eq]
  split <;> simp

/-- A value is its magnitude with its sign. -/
theorem F64.toReal_eq_abs (a : F64) : a.toReal = if a.sign then -|a.toReal| else |a.toReal| := by
  rw [F64.abs_toReal, F64.toReal_eq, F64.signedUnits, F64.units_eq]
  split <;> simp [neg_div]

theorem F64.neg_signedUnits (a : F64) : a.neg.signedUnits = -a.signedUnits := by
  rw [F64.signedUnits, F64.signedUnits, F64.units_eq, F64.units_eq, F64.neg_sign, F64.neg_magBits]
  cases a.sign <;> simp

theorem F64.neg_toReal (a : F64) : a.neg.toReal = -a.toReal := by
  rw [F64.toReal_eq, F64.toReal_eq, F64.neg_signedUnits, Int.cast_neg, neg_div]

theorem F64.units_eq_zero {a : F64} : a.units = 0 ↔ a.isZero = true := by
  rw [F64.units_eq, F64.unitsOf_eq_zero, F64.isZero_iff]

/-! ## The order -/

theorem F64.signedUnits_lt_iff (a b : F64) : a.signedUnits < b.signedUnits ↔ a.key < b.key := by
  have hab : F64.unitsOf a.magBits < F64.unitsOf b.magBits ↔ a.magBits < b.magBits :=
    F64.unitsOf_strictMono.lt_iff_lt
  have hba : F64.unitsOf b.magBits < F64.unitsOf a.magBits ↔ b.magBits < a.magBits :=
    F64.unitsOf_strictMono.lt_iff_lt
  have ha := F64.unitsOf_eq_zero (n := a.magBits)
  have hb := F64.unitsOf_eq_zero (n := b.magBits)
  rw [F64.signedUnits, F64.signedUnits, F64.key, F64.key, F64.units_eq, F64.units_eq]
  cases a.sign <;> cases b.sign <;> simp only [if_true, if_false, Bool.false_eq_true] <;> omega

theorem F64.toReal_lt_iff (a b : F64) : a.toReal < b.toReal ↔ a.key < b.key := by
  rw [F64.toReal_eq, F64.toReal_eq, div_lt_div_iff_of_pos_right (by positivity), Int.cast_lt, F64.signedUnits_lt_iff]

theorem F64.toReal_le_iff (a b : F64) : a.toReal ≤ b.toReal ↔ a.key ≤ b.key := by
  rw [← not_lt, F64.toReal_lt_iff, not_lt]

theorem F64.toReal_eq_iff (a b : F64) : a.toReal = b.toReal ↔ a.key = b.key := by
  rw [le_antisymm_iff, F64.toReal_le_iff, F64.toReal_le_iff, ← le_antisymm_iff]

theorem F64.eq_iff (a b : F64) : F64.eq a b = true ↔ a.isNaN = false ∧ b.isNaN = false ∧ a.key = b.key := by
  simp [F64.eq, and_assoc]

/-- Settles O60: each comparison compares keys, and the keys are in the order of the real values. -/
theorem comparisonsAreTheRealOrder : Obligations.ComparisonsAreTheRealOrder := by
  intro a b ha hb
  have hna := F64.isNaN_of_isFinite ha
  have hnb := F64.isNaN_of_isFinite hb
  refine ⟨?_, ?_, ?_⟩
  · rw [F64.lt_iff, F64.toReal_lt_iff, and_iff_right hna, and_iff_right hnb]
  · rw [F64.le_iff, F64.toReal_le_iff, and_iff_right hna, and_iff_right hnb]
  · rw [F64.eq_iff, F64.toReal_eq_iff, and_iff_right hna, and_iff_right hnb]

end Sys2Proof
end

section
/-! PROOFS. Which branch each operation takes (spec 00 R10): one equation for each kind of operands. -/

namespace Sys2Proof

section
variable {a b : F64}

/-! ## Sums -/

theorem F64.addOr_of_isNaN (nan : F64) (h : a.isNaN = true ∨ b.isNaN = true) : F64.addOr nan a b = nan := by
  rcases h with h | h <;> simp [F64.addOr, h]

theorem F64.addOr_of_opposite_infs (nan : F64) (ha : a.isInf = true) (hb : b.isInf = true) (hs : a.sign ≠ b.sign) :
    F64.addOr nan a b = nan := by
  simp [F64.addOr, ha, hb, hs, F64.isNaN_of_isInf]

theorem F64.addOr_of_isInf_left (nan : F64) (ha : a.isInf = true) (hb : b.isNaN = false)
    (hs : b.isInf = true → a.sign = b.sign) : F64.addOr nan a b = a := by
  simpa [F64.addOr, ha, hb, F64.isNaN_of_isInf] using fun hinf hne => absurd (hs hinf) hne

theorem F64.addOr_of_isInf_right (nan : F64) (ha : a.isFinite = true) (hb : b.isInf = true) :
    F64.addOr nan a b = b := by
  simp [F64.addOr, hb, F64.isNaN_of_isFinite ha, F64.isInf_of_isFinite ha, F64.isNaN_of_isInf]

theorem F64.addOr_of_isFinite (nan : F64) (ha : a.isFinite = true) (hb : b.isFinite = true) :
    F64.addOr nan a b =
      if a.signedUnits + b.signedUnits = 0 then F64.zero (a.sign && b.sign)
      else F64.round (decide (a.signedUnits + b.signedUnits < 0)) (a.signedUnits + b.signedUnits).natAbs 1 := by
  simp [F64.addOr, F64.isNaN_of_isFinite, F64.isInf_of_isFinite, ha, hb]

theorem F64.sub_self_of_isFinite (site : NanSite) (ha : a.isFinite = true) : F64.sub site a a = 0#64 := by
  have hb : a.neg.isFinite = true := by rwa [F64.neg_isFinite]
  rw [F64.sub, F64.addOr_of_isFinite _ ha hb, F64.neg_signedUnits, add_neg_cancel, if_pos rfl, F64.neg_sign,
    Bool.and_not_self]
  rfl

/-! ## Products -/

/-- The operands whose product is a NaN. -/
def F64.MulInvalid (a b : F64) : Prop :=
  a.isNaN = true ∨ b.isNaN = true ∨ (a.isInf = true ∧ b.isZero = true) ∨ (a.isZero = true ∧ b.isInf = true)

theorem F64.mul_of_invalid (site : NanSite) (h : F64.MulInvalid a b) : F64.mul site a b = F64.nan site .mul a b := by
  rcases h with h | h | ⟨h, h'⟩ | ⟨h, h'⟩ <;> simp [F64.mul, *]

theorem F64.mul_of_isInf (site : NanSite) (hv : ¬ F64.MulInvalid a b) (h : a.isInf = true ∨ b.isInf = true) :
    F64.mul site a b = F64.inf (a.sign != b.sign) := by
  simp_all [F64.mul, F64.MulInvalid]

theorem F64.mul_of_not_isInf (site : NanSite) (hv : ¬ F64.MulInvalid a b) (ha : a.isInf = false)
    (hb : b.isInf = false) :
    F64.mul site a b = F64.round (a.sign != b.sign) (a.units * b.units) (2 ^ 1074) := by
  rw [F64.mul, if_neg (by simpa [F64.MulInvalid, or_assoc] using hv), if_neg (by simp [ha, hb])]

theorem F64.not_mulInvalid_of_isFinite (ha : a.isFinite = true) (hb : b.isFinite = true) : ¬ F64.MulInvalid a b := by
  simp [F64.MulInvalid, F64.isNaN_of_isFinite, F64.isInf_of_isFinite, ha, hb]

theorem F64.not_mulInvalid_of_isInf (ha : a.isInf = true) (hb : b.isNaN = false) (hz : b.isZero = false) :
    ¬ F64.MulInvalid a b ∧ ¬ F64.MulInvalid b a := by
  simp [F64.MulInvalid, F64.isNaN_of_isInf, F64.isZero_of_isInf, ha, hb, hz]

theorem F64.mul_sign (site : NanSite) (h : (F64.mul site a b).isNaN = false) :
    (F64.mul site a b).sign = (a.sign ^^ b.sign) := by
  by_cases hv : F64.MulInvalid a b
  case pos => simp [F64.mul_of_invalid site hv] at h
  case neg =>
    by_cases hinf : a.isInf = true ∨ b.isInf = true
    · rw [F64.mul_of_isInf site hv hinf, F64.inf_sign, Bool.bne_eq_xor]
    · obtain ⟨ha, hb⟩ := not_or.mp hinf
      rw [F64.mul_of_not_isInf site hv (eq_false_of_ne_true ha) (eq_false_of_ne_true hb), F64.round_sign,
        Bool.bne_eq_xor]

/-! ## Quotients -/

/-- The operands whose quotient is a NaN. -/
def F64.DivInvalid (a b : F64) : Prop :=
  a.isNaN = true ∨ b.isNaN = true ∨ (a.isInf = true ∧ b.isInf = true) ∨ (a.isZero = true ∧ b.isZero = true)

theorem F64.div_of_invalid (site : NanSite) (h : F64.DivInvalid a b) : F64.div site a b = F64.nan site .div a b := by
  rcases h with h | h | ⟨h, h'⟩ | ⟨h, h'⟩ <;> simp [F64.div, *]

theorem F64.div_of_isInf_or_isZero (site : NanSite) (hv : ¬ F64.DivInvalid a b)
    (h : a.isInf = true ∨ b.isZero = true) : F64.div site a b = F64.inf (a.sign != b.sign) := by
  simp_all [F64.div, F64.DivInvalid]

theorem F64.div_of_isInf_right (site : NanSite) (hv : ¬ F64.DivInvalid a b) (hb : b.isInf = true) :
    F64.div site a b = F64.zero (a.sign != b.sign) := by
  simp_all [F64.div, F64.DivInvalid, F64.isZero_of_isInf]

theorem F64.div_of_not_isInf (site : NanSite) (hv : ¬ F64.DivInvalid a b) (ha : a.isInf = false)
    (hb : b.isInf = false) (hz : b.isZero = false) :
    F64.div site a b = F64.round (a.sign != b.sign) (a.units <<< 1074) b.units := by
  simp_all [F64.div, F64.DivInvalid]

theorem F64.not_divInvalid_of_isFinite (ha : a.isFinite = true) (hb : b.isFinite = true)
    (hz : a.isZero = false ∨ b.isZero = false) : ¬ F64.DivInvalid a b := by
  rcases hz with hz | hz <;> simp [F64.DivInvalid, F64.isNaN_of_isFinite, F64.isInf_of_isFinite, ha, hb, hz]

theorem F64.not_divInvalid_of_isInf (ha : a.isInf = true) (hb : b.isFinite = true) :
    ¬ F64.DivInvalid a b ∧ ¬ F64.DivInvalid b a := by
  simp [F64.DivInvalid, F64.isNaN_of_isInf, F64.isZero_of_isInf, F64.isNaN_of_isFinite, F64.isInf_of_isFinite, ha, hb]

theorem F64.div_sign (site : NanSite) (h : (F64.div site a b).isNaN = false) :
    (F64.div site a b).sign = (a.sign ^^ b.sign) := by
  rw [← Bool.bne_eq_xor]
  by_cases hv : F64.DivInvalid a b
  case pos => simp [F64.div_of_invalid site hv] at h
  case neg =>
    by_cases hinf : a.isInf = true ∨ b.isZero = true
    · rw [F64.div_of_isInf_or_isZero site hv hinf, F64.inf_sign]
    · obtain ⟨ha, hz⟩ := not_or.mp hinf
      by_cases hb : b.isInf = true
      · rw [F64.div_of_isInf_right site hv hb, F64.zero_sign]
      · rw [F64.div_of_not_isInf site hv (eq_false_of_ne_true ha) (eq_false_of_ne_true hb) (eq_false_of_ne_true hz),
          F64.round_sign]

/-! ## Roots -/

theorem F64.sqrt_of_isNaN (site : NanSite) (h : a.isNaN = true) : F64.sqrt site a = F64.nan site .sqrt a a := by
  simp [F64.sqrt, h]

theorem F64.sqrt_of_isZero (site : NanSite) (h : a.isZero = true) : F64.sqrt site a = a := by
  simp [F64.sqrt, h, F64.isNaN_of_isZero]

theorem F64.sqrt_of_sign (site : NanSite) (hn : a.isNaN = false) (hz : a.isZero = false) (hs : a.sign = true) :
    F64.sqrt site a = F64.nan site .sqrt a a := by
  simp [F64.sqrt, hn, hz, hs]

theorem F64.sqrt_of_isInf (site : NanSite) (h : a.isInf = true) (hs : a.sign = false) : F64.sqrt site a = a := by
  simp [F64.sqrt, h, hs, F64.isNaN_of_isInf]

theorem F64.sqrt_of_pos (site : NanSite) (hf : a.isFinite = true) (hz : a.isZero = false) (hs : a.sign = false) :
    F64.sqrt site a = F64.round false a.sqrtHalfUnits 2 := by
  simp [F64.sqrt, hz, hs, F64.isNaN_of_isFinite hf, F64.isInf_of_isFinite hf]

/-! ## Special operands -/

theorem F64.nan_of_isNaN (site : NanSite) (h : a.isNaN = true ∨ b.isNaN = true) :
    (F64.add site a b).isNaN = true ∧ (F64.sub site a b).isNaN = true ∧ (F64.mul site a b).isNaN = true ∧
    (F64.div site a b).isNaN = true := by
  have hneg : a.isNaN = true ∨ b.neg.isNaN = true := by rwa [F64.neg_isNaN]
  have hmul : F64.MulInvalid a b := h.imp_right .inl
  have hdiv : F64.DivInvalid a b := h.imp_right .inl
  simp [F64.add, F64.sub, F64.addOr_of_isNaN _ h, F64.addOr_of_isNaN _ hneg, F64.mul_of_invalid site hmul,
    F64.div_of_invalid site hdiv]

theorem F64.compare_of_isNaN (h : a.isNaN = true ∨ b.isNaN = true) :
    F64.lt a b = false ∧ F64.le a b = false ∧ F64.gt a b = false ∧ F64.ge a b = false ∧ F64.eq a b = false := by
  rcases h with h | h <;> simp [F64.lt, F64.le, F64.gt, F64.ge, F64.eq, h]

theorem F64.sum_of_infs (site : NanSite) (ha : a.isInf = true) (hb : b.isInf = true) :
    (a.sign ≠ b.sign → (F64.add site a b).isNaN = true ∧ F64.sub site a b = a) ∧
    (a.sign = b.sign → (F64.sub site a b).isNaN = true ∧ F64.add site a b = a) := by
  have hb' : b.neg.isInf = true := by rwa [F64.neg_isInf]
  constructor
  · intro hs
    have hs' : a.sign = b.neg.sign := (F64.neg_sign b).symm ▸ Bool.eq_not.mpr hs
    rw [F64.add, F64.addOr_of_opposite_infs _ ha hb hs, F64.sub,
      F64.addOr_of_isInf_left _ ha (F64.isNaN_of_isInf hb') fun _ => hs']
    exact ⟨F64.nan_isNaN _ _ _ _, rfl⟩
  · intro hs
    have hs' : a.sign ≠ b.neg.sign := by simp [hs]
    rw [F64.sub, F64.addOr_of_opposite_infs _ ha hb' hs', F64.add,
      F64.addOr_of_isInf_left _ ha (F64.isNaN_of_isInf hb) fun _ => hs]
    exact ⟨F64.nan_isNaN _ _ _ _, rfl⟩

theorem F64.sum_of_inf_finite (site : NanSite) (ha : a.isInf = true) (hb : b.isFinite = true) :
    F64.add site a b = a ∧ F64.add site b a = a ∧ F64.sub site a b = a ∧ F64.sub site b a = a.neg := by
  have ha' : a.neg.isInf = true := by rwa [F64.neg_isInf]
  have hb' : b.neg.isFinite = true := by rwa [F64.neg_isFinite]
  have left {c : F64} (nan : F64) (hc : c.isFinite = true) : F64.addOr nan a c = a :=
    F64.addOr_of_isInf_left nan ha (F64.isNaN_of_isFinite hc) (by simp [F64.isInf_of_isFinite hc])
  exact ⟨left _ hb, F64.addOr_of_isInf_right _ hb ha, left _ hb', F64.addOr_of_isInf_right _ hb ha'⟩

theorem F64.div_of_inf_finite (site : NanSite) (ha : a.isInf = true) (hb : b.isFinite = true) :
    (F64.div site a b).isInf = true ∧ (F64.div site b a).isZero = true := by
  obtain ⟨hab, hba⟩ := F64.not_divInvalid_of_isInf ha hb
  rw [F64.div_of_isInf_or_isZero site hab (.inl ha), F64.div_of_isInf_right site hba ha]
  exact ⟨F64.inf_isInf _, F64.zero_isZero _⟩

theorem F64.mul_of_inf_nonzero (site : NanSite) (ha : a.isInf = true) (hb : b.isNaN = false) (hz : b.isZero = false) :
    (F64.mul site a b).isInf = true ∧ (F64.mul site b a).isInf = true := by
  obtain ⟨hab, hba⟩ := F64.not_mulInvalid_of_isInf ha hb hz
  rw [F64.mul_of_isInf site hab (.inl ha), F64.mul_of_isInf site hba (.inr ha)]
  exact ⟨F64.inf_isInf _, F64.inf_isInf _⟩

theorem F64.div_by_zero (site : NanSite) (ha : a.isFinite = true) (hz : a.isZero = false) (hb : b.isZero = true) :
    (F64.div site a b).isInf = true := by
  have hv := F64.not_divInvalid_of_isFinite ha (F64.isFinite_of_isZero hb) (.inl hz)
  rw [F64.div_of_isInf_or_isZero site hv (.inr hb)]
  exact F64.inf_isInf _

end

/-- Settles O59: each clause is the branch its operands take. -/
theorem specialOperands : Obligations.SpecialOperands := by
  intro site a b
  have nan_of {op : FOp} {x y v : F64} (h : v = F64.nan site op x y) : v.isNaN = true := h ▸ F64.nan_isNaN ..
  refine ⟨fun h => ?nanOperand, fun h => nan_of (F64.sqrt_of_isNaN site h),
    fun hn hs hz => nan_of (F64.sqrt_of_sign site hn hz hs), F64.sqrt_of_isZero site, F64.sqrt_of_isInf site,
    fun ha hb => ⟨?zeroTimesInf, ?infTimesZero⟩, fun ha hb => ?zeroOverZero,
    fun ha hb => ⟨?infOverInf, F64.sum_of_infs site ha hb⟩, fun ha hb => ?infAndFinite,
    F64.mul_of_inf_nonzero site, F64.div_by_zero site, F64.mul_sign site, F64.div_sign site, F64.sub_self_of_isFinite site⟩
  case nanOperand =>
    obtain ⟨hadd, hsub, hmul, hdiv⟩ := F64.nan_of_isNaN site h
    exact ⟨hadd, hsub, hmul, hdiv, F64.compare_of_isNaN h⟩
  case zeroTimesInf => exact nan_of (F64.mul_of_invalid site (.inr (.inr (.inr ⟨ha, hb⟩))))
  case infTimesZero => exact nan_of (F64.mul_of_invalid site (.inr (.inr (.inl ⟨hb, ha⟩))))
  case zeroOverZero => exact nan_of (F64.div_of_invalid site (.inr (.inr (.inr ⟨ha, hb⟩))))
  case infOverInf => exact nan_of (F64.div_of_invalid site (.inr (.inr (.inl ⟨ha, hb⟩))))
  case infAndFinite =>
    obtain ⟨hab, hba, hsab, hsba⟩ := F64.sum_of_inf_finite site ha hb
    exact ⟨hab, hba, hsab, hsba, F64.div_of_inf_finite site ha hb⟩

end Sys2Proof
end

section
/-! PROOFS. Correct rounding (spec 00 R10; assumption 11). `F64.roundMag` finds the nearest magnitude bits on the scale
without an end, ties to even; cutting the scale at the infinity and giving the sign back makes that a correct
rounding. -/

namespace Sys2Proof

/-- No magnitude bits are nearer to `q` units than `m` are, and if others are as near, `m` is even. -/
def F64.Nearest (q : ℝ) (m : Nat) : Prop :=
  ∀ n : Nat, |(F64.unitsOf m : ℝ) - q| ≤ |(F64.unitsOf n : ℝ) - q| ∧
    (|(F64.unitsOf n : ℝ) - q| = |(F64.unitsOf m : ℝ) - q| → n = m ∨ m % 2 = 0)

theorem F64.unitsOf_cast_lt {m n : Nat} (h : m < n) : (F64.unitsOf m : ℝ) < F64.unitsOf n :=
  Nat.cast_lt.mpr (F64.unitsOf_strictMono h)

theorem F64.unitsOf_cast_le {m n : Nat} (h : m ≤ n) : (F64.unitsOf m : ℝ) ≤ F64.unitsOf n :=
  Nat.cast_le.mpr (F64.unitsOf_strictMono.monotone h)

/-- Between `b` and `b + 1` and not above their midpoint, `b` is nearest. -/
theorem F64.nearest_of_le_midpoint {q : ℝ} {b : Nat} (hlo : (F64.unitsOf b : ℝ) ≤ q)
    (hmid : 2 * q ≤ F64.unitsOf b + F64.unitsOf (b + 1))
    (htie : 2 * q = F64.unitsOf b + F64.unitsOf (b + 1) → b % 2 = 0) : F64.Nearest q b := by
  intro n
  rw [abs_of_nonpos (sub_nonpos.mpr hlo)]
  rcases lt_trichotomy n b with hn | rfl | hn
  · have hnb := F64.unitsOf_cast_lt hn
    rw [abs_of_nonpos (by linarith)]
    exact ⟨by linarith, fun heq => by linarith⟩
  · rw [abs_of_nonpos (sub_nonpos.mpr hlo)]
    exact ⟨le_rfl, fun _ => .inl rfl⟩
  · have hbn := F64.unitsOf_cast_le (Nat.succ_le_of_lt hn)
    rw [abs_of_nonneg (by linarith)]
    exact ⟨by linarith, fun heq => .inr (htie (by linarith))⟩

/-- Between `b` and `b + 1` and not below their midpoint, `b + 1` is nearest. -/
theorem F64.nearest_of_midpoint_le {q : ℝ} {b : Nat} (hhi : q ≤ F64.unitsOf (b + 1))
    (hmid : (F64.unitsOf b : ℝ) + F64.unitsOf (b + 1) ≤ 2 * q)
    (htie : 2 * q = F64.unitsOf b + F64.unitsOf (b + 1) → (b + 1) % 2 = 0) : F64.Nearest q (b + 1) := by
  intro n
  rw [abs_of_nonneg (sub_nonneg.mpr hhi)]
  rcases lt_trichotomy n (b + 1) with hn | rfl | hn
  · have hnb := F64.unitsOf_cast_le (Nat.le_of_lt_succ hn)
    rw [abs_of_nonpos (by linarith)]
    exact ⟨by linarith, fun heq => .inr (htie (by linarith))⟩
  · rw [abs_of_nonneg (sub_nonneg.mpr hhi)]
    exact ⟨le_rfl, fun _ => .inl rfl⟩
  · have hbn := F64.unitsOf_cast_lt hn
    rw [abs_of_nonneg (by linarith)]
    exact ⟨by linarith, fun heq => by linarith⟩

/-! ## The rounding of a fraction -/

/-- The binade of num / den units: how many bits the integer part has beyond 53. -/
def F64.roundExp (num den : Nat) : Nat := (num / den).log2 - 52

/-- The spacing of the binade, as a multiple of 1 / den units. -/
def F64.roundStep (num den : Nat) : Nat := den * 2 ^ F64.roundExp num den

/-- The whole steps of the binade in num / den units. -/
def F64.roundQuot (num den : Nat) : Nat := num / F64.roundStep num den

/-- The part of num / den units beyond the whole steps, as a multiple of 1 / den units. -/
def F64.roundRem (num den : Nat) : Nat := num % F64.roundStep num den

/-- The magnitude bits at or next below num / den units. -/
def F64.roundDown (num den : Nat) : Nat := F64.roundExp num den * 2 ^ 52 + F64.roundQuot num den

theorem F64.roundMag_eq (num den : Nat) :
    F64.roundMag num den =
      if F64.roundStep num den < 2 * F64.roundRem num den ∨
          (2 * F64.roundRem num den = F64.roundStep num den ∧ F64.roundQuot num den % 2 = 1)
        then F64.roundDown num den + 1 else F64.roundDown num den := by
  rw [F64.roundDown, Nat.add_assoc, ← apply_ite (F64.roundExp num den * 2 ^ 52 + ·)]
  simp only [F64.roundMag, Nat.shiftLeft_eq, Bool.or_eq_true, Bool.and_eq_true, decide_eq_true_eq, beq_iff_eq]
  rfl

theorem F64.roundQuot_lt (num den : Nat) : F64.roundQuot num den < 2 ^ 53 := by
  rw [F64.roundQuot, F64.roundStep, ← Nat.div_div_eq_div_mul, Nat.div_lt_iff_lt_mul (by positivity), ← pow_add]
  exact Nat.lt_log2_self.trans_le (Nat.pow_le_pow_right (by decide) (by rw [F64.roundExp]; omega))

theorem F64.le_roundQuot (num den : Nat) : F64.roundExp num den = 0 ∨ 2 ^ 52 ≤ F64.roundQuot num den := by
  by_cases hexp : F64.roundExp num den = 0
  case pos => exact .inl hexp
  case neg =>
    have hlog : 52 + F64.roundExp num den = (num / den).log2 := by rw [F64.roundExp] at *; omega
    have hpos : num / den ≠ 0 := by
      rintro h
      rw [F64.roundExp, h] at hexp
      exact hexp rfl
    right
    rw [F64.roundQuot, F64.roundStep, ← Nat.div_div_eq_div_mul, Nat.le_div_iff_mul_le (by positivity), ← pow_add, hlog]
    exact Nat.log2_self_le hpos

theorem F64.unitsOf_roundDown (num den : Nat) :
    F64.unitsOf (F64.roundDown num den) = F64.roundQuot num den * 2 ^ F64.roundExp num den :=
  F64.unitsOf_binade (F64.le_roundQuot num den) (F64.roundQuot_lt num den).le

theorem F64.unitsOf_roundDown_succ (num den : Nat) :
    F64.unitsOf (F64.roundDown num den + 1) = (F64.roundQuot num den + 1) * 2 ^ F64.roundExp num den := by
  rw [F64.roundDown, Nat.add_assoc]
  exact F64.unitsOf_binade ((F64.le_roundQuot num den).imp_right Nat.le_succ_of_le) (F64.roundQuot_lt num den)

/-- The real number `q` and the fraction num / den lie on the same side of every multiple of 2^(e-1). -/
def F64.SamePlace (q : ℝ) (num den e : Nat) : Prop :=
  ∀ j : Nat, (((j * 2 ^ e : Nat) : ℝ) < 2 * q ↔ j * 2 ^ e * den < 2 * num) ∧
    (2 * q < ((j * 2 ^ e : Nat) : ℝ) ↔ 2 * num < j * 2 ^ e * den)

theorem F64.samePlace_div (num : Nat) {den : Nat} (hden : 0 < den) (e : Nat) :
    F64.SamePlace ((num : ℝ) / den) num den e := by
  have hpos : (0 : ℝ) < den := Nat.cast_pos.mpr hden
  intro j
  rw [← mul_div_assoc, lt_div_iff₀ hpos, div_lt_iff₀ hpos]
  exact ⟨by exact_mod_cast Iff.rfl, by exact_mod_cast Iff.rfl⟩

theorem F64.two_mul_num_eq (num den : Nat) :
    2 * num = 2 * (F64.roundStep num den * F64.roundQuot num den) + 2 * F64.roundRem num den := by
  rw [← Nat.mul_add, F64.roundQuot, F64.roundRem, Nat.div_add_mod]

/-- The half steps from the whole ones on. -/
theorem F64.half_step_eq (num den i : Nat) :
    (2 * F64.roundQuot num den + i) * 2 ^ F64.roundExp num den * den =
      2 * (F64.roundStep num den * F64.roundQuot num den) + i * F64.roundStep num den := by
  rw [F64.roundStep]
  ring

/-- Which side of a half step a number lies on is told by the remainder. -/
theorem F64.SamePlace.half_steps {num den : Nat} {q : ℝ} (hq : F64.SamePlace q num den (F64.roundExp num den))
    (i : Nat) :
    (((2 * F64.roundQuot num den + i) * 2 ^ F64.roundExp num den : ℝ) < 2 * q ↔
      i * F64.roundStep num den < 2 * F64.roundRem num den) ∧
    (2 * q < ((2 * F64.roundQuot num den + i) * 2 ^ F64.roundExp num den : ℝ) ↔
      2 * F64.roundRem num den < i * F64.roundStep num den) := by
  have hside := hq (2 * F64.roundQuot num den + i)
  rw [F64.two_mul_num_eq num den, F64.half_step_eq, Nat.add_lt_add_iff_left, Nat.add_lt_add_iff_left] at hside
  exact_mod_cast hside

/-- The rounding of num / den is nearest to every number that no step or midpoint of the binade separates from it. -/
theorem F64.nearest_roundMag {num den : Nat} {q : ℝ} (hden : 0 < den)
    (hq : F64.SamePlace q num den (F64.roundExp num den)) : F64.Nearest q (F64.roundMag num den) := by
  have hrem : F64.roundRem num den < F64.roundStep num den := Nat.mod_lt _ (by rw [F64.roundStep]; positivity)
  have hparity : F64.roundDown num den % 2 = F64.roundQuot num den % 2 := by rw [F64.roundDown]; omega
  have hlo : (F64.unitsOf (F64.roundDown num den) : ℝ) ≤ q := by
    have hside := (hq.half_steps 0).2.not.mpr (by omega)
    rw [F64.unitsOf_roundDown]
    push_cast at hside ⊢
    linarith
  have hhi : q ≤ F64.unitsOf (F64.roundDown num den + 1) := by
    have hside := (hq.half_steps 2).2.mpr (by omega)
    rw [F64.unitsOf_roundDown_succ]
    push_cast at hside ⊢
    linarith
  have hmid : (2 * F64.roundQuot num den + (1 : Nat)) * 2 ^ F64.roundExp num den =
      (F64.unitsOf (F64.roundDown num den) : ℝ) + F64.unitsOf (F64.roundDown num den + 1) := by
    rw [F64.unitsOf_roundDown, F64.unitsOf_roundDown_succ]
    push_cast
    ring
  obtain ⟨habove, hbelow⟩ := hq.half_steps 1
  rw [hmid, Nat.one_mul] at habove hbelow
  rw [F64.roundMag_eq]
  split
  case isTrue hup =>
    refine F64.nearest_of_midpoint_le hhi (not_lt.mp (hbelow.not.mpr (by omega))) fun htie => ?_
    have := habove.not.mp htie.not_gt
    omega
  case isFalse hdown =>
    refine F64.nearest_of_le_midpoint hlo (not_lt.mp (habove.not.mpr (by omega))) fun htie => ?_
    have := hbelow.not.mp htie.not_lt
    omega

/-! ## The end of the scale -/

/-- Twice the overflow bound in units is the sum of the greatest finite value and the next power of two. -/
theorem F64.overflowBound_units :
    2 * ((F64.overflowBound : ℝ) * 2 ^ 1074) = F64.unitsOf (F64.infBits - 1) + F64.unitsOf F64.infBits := by
  have hlast : F64.infBits - 1 = 2045 * 2 ^ 52 + (2 ^ 53 - 1) := by decide
  have hend : F64.infBits = 2045 * 2 ^ 52 + 2 ^ 53 := by decide
  have htop : (2 : ℝ) ^ 1024 = 2 ^ 54 * 2 ^ 970 := by rw [← pow_add]
  have hscale : (2 : ℝ) ^ 2045 = 2 ^ 970 * 2 ^ 1074 * 2 := by rw [← pow_add, ← pow_succ]
  rw [hlast, hend, F64.unitsOf_binade (by decide) (by decide), F64.unitsOf_binade (by decide) (by decide),
    F64.overflowBound]
  simp only [Nat.cast_mul, Nat.cast_pow, Nat.cast_ofNat, Rat.cast_sub, Rat.cast_pow, Rat.cast_ofNat, htop, hscale]
  generalize (2 : ℝ) ^ 970 = x
  generalize (2 : ℝ) ^ 1074 = y
  norm_num
  ring

/-- What is nearest is finite exactly below the overflow bound. -/
theorem F64.Nearest.lt_infBits_iff {q : ℝ} {m : Nat} (h : F64.Nearest q m) :
    m < F64.infBits ↔ q < F64.overflowBound * 2 ^ 1074 := by
  have hbound := F64.overflowBound_units
  have hlast := F64.unitsOf_cast_lt (show F64.infBits - 1 < F64.infBits by decide)
  generalize (F64.overflowBound : ℝ) * 2 ^ 1074 = bound at *
  constructor
  case mp =>
    intro hm
    by_contra hq
    have hmlast := F64.unitsOf_cast_le (Nat.le_sub_one_of_lt hm)
    obtain ⟨hle, htie⟩ := h F64.infBits
    rw [abs_of_nonpos (by linarith : (F64.unitsOf m : ℝ) - q ≤ 0)] at hle htie
    have hnear : (F64.unitsOf F64.infBits : ℝ) - q = -(F64.unitsOf m - q) := by
      rcases abs_cases ((F64.unitsOf F64.infBits : ℝ) - q) with ⟨habs, _⟩ | ⟨habs, _⟩ <;> linarith
    have hodd : m = F64.infBits - 1 :=
      F64.unitsOf_strictMono.injective (Nat.cast_injective (R := ℝ) (by linarith))
    have habs : |(F64.unitsOf F64.infBits : ℝ) - q| = -(F64.unitsOf m - q) := by
      rw [hnear, abs_of_nonneg (by linarith)]
    rcases htie habs with hinf | heven
    · exact hm.ne hinf.symm
    · rw [hodd] at heven
      exact absurd heven (by decide)
  case mpr =>
    intro hq
    by_contra hm
    have hminf := F64.unitsOf_cast_le (not_lt.mp hm)
    have hle := (h (F64.infBits - 1)).1
    rw [abs_of_nonneg (by linarith : 0 ≤ (F64.unitsOf m : ℝ) - q)] at hle
    rcases abs_cases ((F64.unitsOf (F64.infBits - 1) : ℝ) - q) with ⟨habs, _⟩ | ⟨habs, _⟩ <;> linarith

/-! ## Correct rounding -/

theorem F64.toReal_nonpos {v : F64} (h : v.sign = true) : v.toReal ≤ 0 := by
  rw [F64.toReal_eq_abs, if_pos h]
  exact neg_nonpos.mpr (abs_nonneg _)

theorem F64.toReal_nonneg {v : F64} (h : v.sign = false) : 0 ≤ v.toReal := by
  rw [F64.toReal_eq_abs, if_neg (by simp [h])]
  exact abs_nonneg _

/-- A value is as far from a real number of its sign as their magnitudes are. -/
theorem F64.abs_toReal_sub {r : ℝ} {v : F64} (hneg : r < 0 → v.sign = true) (hpos : 0 < r → v.sign = false) :
    |v.toReal - r| = |(|v.toReal| - |r|)| := by
  rcases lt_trichotomy r 0 with hr | rfl | hr
  · rw [abs_of_nonpos (F64.toReal_nonpos (hneg hr)), abs_of_neg hr, neg_sub_neg, abs_sub_comm]
  · simp
  · rw [abs_of_nonneg (F64.toReal_nonneg (hpos hr)), abs_of_pos hr]

/-- The distance of two magnitudes, counted in units. -/
theorem F64.abs_unitsOf_sub (r : ℝ) (v : F64) :
    |F64.unitsOf v.magBits - |r| * 2 ^ 1074| = |(|v.toReal| - |r|)| * 2 ^ 1074 := by
  have hpos : (0 : ℝ) < 2 ^ 1074 := by positivity
  have hscale : F64.unitsOf v.magBits - |r| * 2 ^ 1074 = (|v.toReal| - |r|) * 2 ^ 1074 := by
    rw [F64.abs_toReal, sub_mul, div_mul_cancel₀ _ hpos.ne']
  rw [hscale, abs_mul, abs_of_pos hpos]

/-- A finite value whose magnitude bits are nearest is as near as any other, ties to even. -/
theorem F64.nearest_toReal {r : ℝ} {v : F64} (hneg : r < 0 → v.sign = true) (hpos : 0 < r → v.sign = false)
    (h : F64.Nearest (|r| * 2 ^ 1074) v.magBits) (y : F64) :
    |v.toReal - r| ≤ |y.toReal - r| ∧ (|y.toReal - r| = |v.toReal - r| → y.toReal = v.toReal ∨ v.toNat % 2 = 0) := by
  have hunit : (0 : ℝ) < 2 ^ 1074 := by positivity
  obtain ⟨hle, heven⟩ := h y.magBits
  rw [F64.abs_unitsOf_sub, F64.abs_unitsOf_sub, mul_le_mul_iff_left₀ hunit, ← F64.abs_toReal_sub hneg hpos] at hle
  rw [F64.abs_unitsOf_sub, F64.abs_unitsOf_sub, mul_left_inj' hunit.ne', ← F64.abs_toReal_sub hneg hpos] at heven
  have hmag : |(|y.toReal| - |r|)| ≤ |y.toReal - r| := abs_abs_sub_abs_le _ _
  refine ⟨hle.trans hmag, fun htie => ?_⟩
  rcases heven (le_antisymm (htie ▸ hmag) hle) with hbits | heven
  case inr =>
    rw [F64.magBits] at heven
    exact .inr (by omega)
  case inl =>
    left
    have habs : |y.toReal| = |v.toReal| := by rw [F64.abs_toReal, F64.abs_toReal, hbits]
    rcases abs_eq_abs.mp habs with hy | hy
    · exact hy
    · have hzero : v.toReal * r = 0 := by
        rw [hy, ← sq_eq_sq_iff_abs_eq_abs] at htie
        linarith
      rcases mul_eq_zero.mp hzero with hv | rfl
      · rw [hy, hv, neg_zero]
      · have hfirst := (h 0).1
        rw [F64.unitsOf_zero, Nat.cast_zero, abs_zero, zero_mul, sub_zero, sub_zero, abs_zero,
          abs_nonpos_iff] at hfirst
        have hv : v.toReal = 0 := by rw [← abs_eq_zero, F64.abs_toReal, hfirst, zero_div]
        rw [hy, hv, neg_zero]

/-- A pattern with the nearest magnitude bits, or the infinity in their place, and the right sign is a correct
rounding. -/
theorem F64.roundsTo_of_nearest {r : ℝ} {v : F64} {m : Nat} (hneg : r < 0 → v.sign = true)
    (hpos : 0 < r → v.sign = false) (h : F64.Nearest (|r| * 2 ^ 1074) m) (hv : v.magBits = Min.min F64.infBits m) :
    F64.RoundsTo r v := by
  have hfin : m < F64.infBits ↔ |r| < F64.overflowBound := by
    rw [h.lt_infBits_iff, mul_lt_mul_iff_left₀ (by positivity)]
  refine ⟨hneg, hpos, fun hover => ?overflow, fun hbound => ?finite⟩
  case overflow =>
    rw [F64.isInf_iff, hv, min_eq_left (not_lt.mp (hfin.not.mpr hover.not_gt))]
  case finite =>
    have hm := hfin.mpr hbound
    rw [min_eq_right hm.le] at hv
    exact ⟨(F64.isFinite_iff v).mpr (hv ▸ hm), fun y _ => F64.nearest_toReal hneg hpos (hv ▸ h) y⟩

/-- Rounding num / den units, the sign given, is a correct rounding of every real number of that sign whose magnitude
no step or midpoint of the binade separates from num / den units. -/
theorem F64.roundsTo_round_of_samePlace {r : ℝ} {neg : Bool} {num den : Nat} (hneg : r < 0 → neg = true)
    (hpos : 0 < r → neg = false) (hden : 0 < den)
    (h : F64.SamePlace (|r| * 2 ^ 1074) num den (F64.roundExp num den)) :
    F64.RoundsTo r (F64.round neg num den) :=
  F64.roundsTo_of_nearest (by rwa [F64.round_sign]) (by rwa [F64.round_sign]) (F64.nearest_roundMag hden h)
    (F64.round_magBits ..)

/-- Rounding num / den units, the sign given, is a correct rounding of the real number they are. -/
theorem F64.roundsTo_round {r : ℝ} {neg : Bool} {num den : Nat} (hneg : r < 0 → neg = true)
    (hpos : 0 < r → neg = false) (hden : 0 < den) (h : |r| * 2 ^ 1074 = num / den) :
    F64.RoundsTo r (F64.round neg num den) :=
  F64.roundsTo_round_of_samePlace hneg hpos hden (h ▸ F64.samePlace_div num hden _)

/-- A zero of either sign is a correct rounding of 0. -/
theorem F64.roundsTo_zero {v : F64} (h : v.isZero = true) : F64.RoundsTo 0 v := by
  have hnear : F64.Nearest (|0| * 2 ^ 1074) 0 := by
    intro n
    rw [abs_zero, zero_mul, sub_zero, F64.unitsOf_zero, Nat.cast_zero, abs_zero]
    exact ⟨abs_nonneg _, fun _ => .inr rfl⟩
  refine F64.roundsTo_of_nearest (fun h => absurd h (lt_irrefl _)) (fun h => absurd h (lt_irrefl _)) hnear ?_
  rw [(F64.isZero_iff v).mp h, Nat.min_zero]

end Sys2Proof
end

section
/-! PROOFS. Each operation on finite values, and each conversion, rounds its exact result once (spec 00 R10, R12). -/

namespace Sys2Proof

/-! ## Sums -/

theorem F64.roundsTo_addOr (nan : F64) {a b : F64} (ha : a.isFinite = true) (hb : b.isFinite = true) :
    F64.RoundsTo (a.toReal + b.toReal) (F64.addOr nan a b) := by
  have hunit : (0 : ℝ) < 2 ^ 1074 := by positivity
  rw [F64.addOr_of_isFinite nan ha hb, F64.toReal_eq, F64.toReal_eq, ← add_div, ← Int.cast_add]
  generalize a.signedUnits + b.signedUnits = z
  split
  case isTrue hz =>
    rw [hz, Int.cast_zero, zero_div]
    exact F64.roundsTo_zero (F64.zero_isZero _)
  case isFalse =>
    refine F64.roundsTo_round (fun hr => ?_) (fun hr => ?_) Nat.one_pos ?_
    · rw [div_lt_iff₀ hunit, zero_mul, Int.cast_lt_zero] at hr
      exact decide_eq_true hr
    · rw [div_pos_iff_of_pos_right hunit, Int.cast_pos] at hr
      exact decide_eq_false hr.not_gt
    · rw [abs_div, abs_of_pos hunit, div_mul_cancel₀ _ hunit.ne', Nat.cast_natAbs, Int.cast_abs, Nat.cast_one, div_one]

/-- Settles O55: a difference is the sum with the negated operand. -/
theorem sumsAreCorrectlyRounded : Obligations.SumsAreCorrectlyRounded := by
  intro site a b ha hb
  have hb' : b.neg.isFinite = true := by rwa [F64.neg_isFinite]
  refine ⟨F64.roundsTo_addOr _ ha hb, ?_⟩
  rw [sub_eq_add_neg, ← F64.neg_toReal]
  exact F64.roundsTo_addOr _ ha hb'

/-! ## Products and quotients -/

theorem F64.sign_of_toReal_neg {a : F64} (h : a.toReal < 0) : a.sign = true :=
  eq_true_of_ne_false fun hs => h.not_ge (F64.toReal_nonneg hs)

theorem F64.sign_of_toReal_pos {a : F64} (h : 0 < a.toReal) : a.sign = false :=
  eq_false_of_ne_true fun hs => h.not_ge (F64.toReal_nonpos hs)

theorem F64.sign_bne_of_opposite {a b : F64}
    (h : 0 < a.toReal ∧ b.toReal < 0 ∨ a.toReal < 0 ∧ 0 < b.toReal) : (a.sign != b.sign) = true := by
  rcases h with ⟨ha, hb⟩ | ⟨ha, hb⟩
  · rw [F64.sign_of_toReal_pos ha, F64.sign_of_toReal_neg hb]; rfl
  · rw [F64.sign_of_toReal_neg ha, F64.sign_of_toReal_pos hb]; rfl

theorem F64.sign_bne_of_agreeing {a b : F64}
    (h : 0 < a.toReal ∧ 0 < b.toReal ∨ a.toReal < 0 ∧ b.toReal < 0) : (a.sign != b.sign) = false := by
  rcases h with ⟨ha, hb⟩ | ⟨ha, hb⟩
  · rw [F64.sign_of_toReal_pos ha, F64.sign_of_toReal_pos hb]; rfl
  · rw [F64.sign_of_toReal_neg ha, F64.sign_of_toReal_neg hb]; rfl

theorem F64.abs_toReal_eq_units (a : F64) : |a.toReal| = (a.units : ℝ) / 2 ^ 1074 := by
  rw [F64.abs_toReal, F64.units_eq]

theorem F64.cast_shiftLeft (n k : Nat) : ((n <<< k : Nat) : ℝ) = n * 2 ^ k := by
  rw [Nat.shiftLeft_eq, Nat.cast_mul, Nat.cast_pow, Nat.cast_ofNat]

theorem F64.roundsTo_mul (site : NanSite) {a b : F64} (ha : a.isFinite = true) (hb : b.isFinite = true) :
    F64.RoundsTo (a.toReal * b.toReal) (F64.mul site a b) := by
  rw [F64.mul_of_not_isInf site (F64.not_mulInvalid_of_isFinite ha hb) (F64.isInf_of_isFinite ha)
    (F64.isInf_of_isFinite hb)]
  refine F64.roundsTo_round (fun h => F64.sign_bne_of_opposite (mul_neg_iff.mp h))
    (fun h => F64.sign_bne_of_agreeing (mul_pos_iff.mp h)) (by positivity) ?_
  rw [abs_mul, F64.abs_toReal_eq_units, F64.abs_toReal_eq_units, Nat.cast_mul, Nat.cast_pow, Nat.cast_ofNat]
  have hunit : (2 : ℝ) ^ 1074 ≠ 0 := by positivity
  generalize (2 : ℝ) ^ 1074 = unit at *
  field_simp

theorem F64.roundsTo_div (site : NanSite) {a b : F64} (ha : a.isFinite = true) (hb : b.isFinite = true)
    (hz : b.isZero = false) : F64.RoundsTo (a.toReal / b.toReal) (F64.div site a b) := by
  have hunits : 0 < b.units := Nat.pos_of_ne_zero (by rw [Ne, F64.units_eq_zero, hz]; decide)
  have hunit : (2 : ℝ) ^ 1074 ≠ 0 := by positivity
  rw [F64.div_of_not_isInf site (F64.not_divInvalid_of_isFinite ha hb (.inr hz)) (F64.isInf_of_isFinite ha)
    (F64.isInf_of_isFinite hb) hz]
  refine F64.roundsTo_round (fun h => F64.sign_bne_of_opposite (div_neg_iff.mp h))
    (fun h => F64.sign_bne_of_agreeing (div_pos_iff.mp h)) hunits ?_
  rw [abs_div, F64.abs_toReal_eq_units, F64.abs_toReal_eq_units, div_div_div_cancel_right₀ hunit, F64.cast_shiftLeft,
    div_mul_eq_mul_div]

/-- Settles O56: the exact product and the exact quotient of the units are rounded once. -/
theorem productsAreCorrectlyRounded : Obligations.ProductsAreCorrectlyRounded :=
  fun site _ _ ha hb => ⟨F64.roundsTo_mul site ha hb, F64.roundsTo_div site ha hb⟩

/-! ## Conversions -/

theorem F64.roundsTo_ratio (num : Nat) {den : Nat} (hden : den ≠ 0) :
    F64.RoundsTo ((num : ℝ) / den) (F64.ratio num den) := by
  have hnonneg : (0 : ℝ) ≤ num / den := by positivity
  refine F64.roundsTo_round (fun h => absurd h hnonneg.not_gt) (fun _ => rfl) (Nat.pos_of_ne_zero hden) ?_
  rw [abs_of_nonneg hnonneg, F64.cast_shiftLeft, div_mul_eq_mul_div]

/-- Settles O58: a natural number is a fraction over 1. -/
theorem conversionsAreCorrectlyRounded : Obligations.ConversionsAreCorrectlyRounded := by
  refine ⟨fun n => ?_, fun p q hq => F64.roundsTo_ratio p hq⟩
  rw [← div_one (n : ℝ), ← Nat.cast_one]
  exact F64.roundsTo_ratio n Nat.one_ne_zero

end Sys2Proof
end

section
/-! PROOFS. The square root (spec 00 R10, R195): the half units of the root lie on the same side as the exact root of
every multiple of twice the last root bit, and every step and midpoint of the binade is such a multiple. -/

namespace Sys2Proof

/-! ## The integer root -/

theorem natSqrtFrom_spec (n bits : Nat) : ∀ root : Nat, root ^ 2 ≤ n → n < (root + 2 ^ bits) ^ 2 →
    natSqrtFrom n bits root ^ 2 ≤ n ∧ n < (natSqrtFrom n bits root + 1) ^ 2 := by
  induction bits with
  | zero => exact fun root hlo hhi => ⟨hlo, hhi⟩
  | succ k ih =>
    intro root hlo hhi
    rw [natSqrtFrom, ← sq]
    split
    case isTrue hbit => exact ih _ hbit (by rwa [Nat.add_assoc, ← Nat.two_mul, ← Nat.pow_succ'])
    case isFalse hbit => exact ih _ hlo (not_le.mp hbit)

/-- The leading bits of the root of s, without the pairs that are dropped. -/
def sqrtLead (s : Nat) : Nat := natSqrtFrom (s >>> (2 * sqrtDrop s)) 66 0

theorem sqrtLead_spec (s : Nat) :
    sqrtLead s ^ 2 ≤ s / 2 ^ (2 * sqrtDrop s) ∧ s / 2 ^ (2 * sqrtDrop s) < (sqrtLead s + 1) ^ 2 := by
  have hexp : s.log2 + 1 ≤ (66 + 66) + 2 * sqrtDrop s := by rw [sqrtDrop]; omega
  have hbits : s < 2 ^ ((66 + 66) + 2 * sqrtDrop s) :=
    Nat.lt_log2_self.trans_le (Nat.pow_le_pow_right (by decide) hexp)
  rw [sqrtLead, Nat.shiftRight_eq_div_pow]
  refine natSqrtFrom_spec _ _ _ (Nat.zero_le _) ?_
  rwa [Nat.zero_add, ← pow_mul, Nat.mul_comm 66 2, Nat.div_lt_iff_lt_mul (by positivity), ← pow_add, Nat.two_mul 66]

/-- The leading bits keep at least 64 bits of a large root. -/
theorem le_sqrtLead {s : Nat} (h : 128 ≤ s.log2) : 2 ^ 64 ≤ sqrtLead s := by
  have hs : s ≠ 0 := by rintro rfl; simp at h
  have hkept : (2 ^ 64) ^ 2 ≤ s / 2 ^ (2 * sqrtDrop s) := by
    rw [Nat.le_div_iff_mul_le (by positivity), ← pow_mul, ← pow_add, ← Nat.le_log2 hs, sqrtDrop]
    omega
  exact Nat.le_of_lt_succ (lt_of_pow_lt_pow_left₀ 2 (Nat.zero_le _) (hkept.trans_lt (sqrtLead_spec s).2))

/-- The natural number whose real root counts the units of the root of a value. -/
def F64.sqrtRadicand (a : F64) : Nat := a.units <<< 1074

/-- The integer root the half units are made from. -/
def F64.sqrtRoot (a : F64) : Nat := sqrtLead a.sqrtRadicand * 2 ^ sqrtDrop a.sqrtRadicand

theorem F64.sqrtHalfUnits_eq (a : F64) :
    a.sqrtHalfUnits = 2 * a.sqrtRoot + if a.sqrtRoot ^ 2 = a.sqrtRadicand then 0 else 1 := by
  simp only [F64.sqrtRoot, sqrtLead, sq, ← Nat.shiftLeft_eq]
  rfl

theorem F64.sqrtRoot_sq_le (a : F64) : a.sqrtRoot ^ 2 ≤ a.sqrtRadicand := by
  have hle := (sqrtLead_spec a.sqrtRadicand).1
  rw [Nat.le_div_iff_mul_le (by positivity)] at hle
  rwa [F64.sqrtRoot, mul_pow, ← pow_mul, Nat.mul_comm (sqrtDrop _) 2]

theorem F64.sqrtRadicand_lt (a : F64) :
    a.sqrtRadicand < ((sqrtLead a.sqrtRadicand + 1) * 2 ^ sqrtDrop a.sqrtRadicand) ^ 2 := by
  have hlt := (sqrtLead_spec a.sqrtRadicand).2
  rw [Nat.div_lt_iff_lt_mul (by positivity)] at hlt
  rwa [mul_pow, ← pow_mul, Nat.mul_comm (sqrtDrop _) 2]

/-- The half units and twice the exact root lie on the same side of every multiple of twice the last root bit. -/
theorem F64.sqrtHalfUnits_samePlace (a : F64) (i : Nat) :
    (i * 2 ^ (sqrtDrop a.sqrtRadicand + 1) < a.sqrtHalfUnits ↔
      (i * 2 ^ (sqrtDrop a.sqrtRadicand + 1)) ^ 2 < 4 * a.sqrtRadicand) ∧
    (a.sqrtHalfUnits < i * 2 ^ (sqrtDrop a.sqrtRadicand + 1) ↔
      4 * a.sqrtRadicand < (i * 2 ^ (sqrtDrop a.sqrtRadicand + 1)) ^ 2) := by
  have hbit : 0 < 2 ^ sqrtDrop a.sqrtRadicand := by positivity
  have hlo := a.sqrtRoot_sq_le
  have hhi := a.sqrtRadicand_lt
  have hsq : (i * 2 ^ (sqrtDrop a.sqrtRadicand + 1)) ^ 2 = 4 * (i * 2 ^ sqrtDrop a.sqrtRadicand) ^ 2 := by ring
  have hmul : i * 2 ^ (sqrtDrop a.sqrtRadicand + 1) = 2 * (i * 2 ^ sqrtDrop a.sqrtRadicand) := by ring
  rw [hsq, hmul, F64.sqrtHalfUnits_eq]
  rw [F64.sqrtRoot] at *
  rw [Nat.add_mul, Nat.one_mul] at hhi
  generalize sqrtLead a.sqrtRadicand = lead at *
  generalize 2 ^ sqrtDrop a.sqrtRadicand = bit at *
  rcases lt_trichotomy i lead with hi | rfl | hi
  · have hroot : i * bit < lead * bit := Nat.mul_lt_mul_of_pos_right hi hbit
    have hroot2 : (i * bit) ^ 2 < (lead * bit) ^ 2 := Nat.pow_lt_pow_left hroot two_ne_zero
    split <;> omega
  · split <;> omega
  · have hroot : lead * bit + bit ≤ i * bit := by nlinarith
    have hroot2 : (lead * bit + bit) ^ 2 ≤ (i * bit) ^ 2 := Nat.pow_le_pow_left hroot 2
    split <;> omega

/-! ## The rounding of the root -/

theorem le_log2_shiftLeft {n : Nat} (hn : n ≠ 0) (k : Nat) : k ≤ (n <<< k).log2 := by
  rw [Nat.shiftLeft_eq, Nat.le_log2 (by positivity)]
  exact Nat.le_mul_of_pos_left _ (Nat.pos_of_ne_zero hn)

theorem F64.le_log2_sqrtRadicand {a : F64} (hz : a.isZero = false) : 1074 ≤ a.sqrtRadicand.log2 := by
  have hunits : a.units ≠ 0 := by rw [Ne, F64.units_eq_zero, hz]; decide
  exact le_log2_shiftLeft hunits 1074

/-- The midpoints of the root's binade are multiples of twice the last root bit. -/
theorem F64.sqrtDrop_lt_roundExp {a : F64} (hz : a.isZero = false) :
    sqrtDrop a.sqrtRadicand + 1 ≤ F64.roundExp a.sqrtHalfUnits 2 := by
  have hhalf : a.sqrtHalfUnits / 2 = a.sqrtRoot := by
    rw [F64.sqrtHalfUnits_eq]
    split <;> omega
  have hroot : 2 ^ (64 + sqrtDrop a.sqrtRadicand) ≤ a.sqrtRoot := by
    rw [pow_add]
    exact Nat.mul_le_mul_right _ (le_sqrtLead ((by decide : 128 ≤ 1074).trans (F64.le_log2_sqrtRadicand hz)))
  have hlog := (Nat.le_log2 (Nat.pos_iff_ne_zero.mp (Nat.lt_of_lt_of_le (by positivity) hroot))).mpr hroot
  rw [F64.roundExp, hhalf]
  omega

theorem F64.samePlace_sqrt {a : F64} (hz : a.isZero = false) :
    F64.SamePlace (Real.sqrt a.sqrtRadicand) a.sqrtHalfUnits 2 (F64.roundExp a.sqrtHalfUnits 2) := by
  have htwo : 2 * Real.sqrt a.sqrtRadicand = Real.sqrt ((4 * a.sqrtRadicand : Nat) : ℝ) := by
    rw [Nat.cast_mul, Real.sqrt_mul (by positivity), show ((4 : Nat) : ℝ) = 2 ^ 2 by norm_num,
      Real.sqrt_sq (by positivity)]
  intro j
  obtain ⟨extra, hexp⟩ := Nat.exists_eq_add_of_le (F64.sqrtDrop_lt_roundExp hz)
  have hj : j * 2 ^ F64.roundExp a.sqrtHalfUnits 2 = (j * 2 ^ extra) * 2 ^ (sqrtDrop a.sqrtRadicand + 1) := by
    rw [hexp, pow_add]; ring
  obtain ⟨hbelow, habove⟩ := F64.sqrtHalfUnits_samePlace a (j * 2 ^ extra)
  rw [← hj] at hbelow habove
  rw [htwo, Real.lt_sqrt (Nat.cast_nonneg _), Real.sqrt_lt (Nat.cast_nonneg _) (Nat.cast_nonneg _), ← Nat.cast_pow,
    Nat.cast_lt, Nat.cast_lt, ← hbelow, ← habove]
  omega

theorem F64.sqrtRadicand_cast (a : F64) : (a.sqrtRadicand : ℝ) = a.units * 2 ^ 1074 :=
  F64.cast_shiftLeft a.units 1074

theorem F64.sqrt_toReal_units {a : F64} (hs : a.sign = false) :
    |Real.sqrt a.toReal| * 2 ^ 1074 = Real.sqrt a.sqrtRadicand := by
  have hvalue : a.toReal = (a.units : ℝ) / 2 ^ 1074 := by
    rw [← F64.abs_toReal_eq_units, abs_of_nonneg (F64.toReal_nonneg hs)]
  have hunit : (0 : ℝ) < 2 ^ 1074 := by positivity
  rw [abs_of_nonneg (Real.sqrt_nonneg _), hvalue, F64.sqrtRadicand_cast]
  generalize (2 : ℝ) ^ 1074 = unit at *
  rw [Real.sqrt_div (Nat.cast_nonneg _), Real.sqrt_mul (Nat.cast_nonneg _), div_mul_eq_mul_div, mul_div_assoc,
    Real.div_sqrt]

theorem F64.isZero_toReal {a : F64} (h : a.isZero = true) : a.toReal = 0 := by
  rw [← abs_eq_zero, F64.abs_toReal_eq_units, F64.units_eq_zero.mpr h, Nat.cast_zero, zero_div]

/-- Settles O57: the root of a zero is that zero, and any other root is rounded from its half units. -/
theorem rootsAreCorrectlyRounded : Obligations.RootsAreCorrectlyRounded := by
  intro site a hf hsign
  cases hz : a.isZero
  case true =>
    rw [F64.sqrt_of_isZero site hz, F64.isZero_toReal hz, Real.sqrt_zero]
    exact F64.roundsTo_zero hz
  case false =>
    have hs : a.sign = false := hsign.resolve_right (by simp [hz])
    rw [F64.sqrt_of_pos site hf hz hs]
    refine F64.roundsTo_round_of_samePlace (fun h => absurd h (Real.sqrt_nonneg _).not_gt) (fun _ => rfl)
      Nat.two_pos ?_
    rw [F64.sqrt_toReal_units hs]
    exact F64.samePlace_sqrt hz

end Sys2Proof
end

section
/-! PROOFS. The ring buffer (spec 10 R35), STATUS (R44) and the bins of the frontend (spec 42): each definition's own
facts. -/

namespace Sys2Proof.Machine

/-! ## The ring buffer -/

theorem length_appendWindow_full {l : List Window} (w : Window) (h : l.length = 100) :
    (appendWindow l w).length = 100 := by
  simp [appendWindow_full h, h]

theorem length_appendWindow_room {l : List Window} (w : Window) (h : l.length ≠ 100) :
    (appendWindow l w).length = l.length + 1 := by
  simp [appendWindow_room h]

theorem length_appendWindow_le {l : List Window} (w : Window) (h : l.length ≤ 100) :
    (appendWindow l w).length ≤ 100 := by
  rcases eq_or_ne l.length 100 with hfull | hroom
  · exact (length_appendWindow_full w hfull).le
  · rw [length_appendWindow_room w hroom]
    omega

theorem getLast?_appendWindow (l : List Window) (w : Window) : (appendWindow l w).getLast? = some w := by
  unfold appendWindow
  split <;> simp

/-- Settles O30: a full buffer is its tail with the new window behind, and one with room keeps every window. -/
theorem ringBufferAppends : Obligations.RingBufferAppends := by
  intro l w h
  refine ⟨length_appendWindow_le w h, getLast?_appendWindow l w, fun hfull => ?_, fun hroom => ?_⟩
  · refine ⟨length_appendWindow_full w hfull, fun j hj => ?_⟩
    rw [appendWindow_full hfull, List.getElem?_append_left (by simp [hfull, hj]), List.getElem?_tail]
  · refine ⟨length_appendWindow_room w hroom.ne, fun j hj => ?_⟩
    rw [appendWindow_room hroom.ne, List.getElem?_append_left hj]

/-! ## STATUS -/

theorem mode_bits (s : State) : s.mode.bits =
    if s.configured = false then 0#2 else if s.learn = true then 1#2 else if s.latch = true then 3#2 else 2#2 := by
  unfold State.mode
  cases s.configured <;> cases s.learn <;> cases s.latch <;> rfl

/-- Settles O38: STATUS is assembled from its fields, so each bit is read from the field it lies in. -/
theorem statusFields : Obligations.StatusFields := by
  intro s
  rw [← mode_bits]
  unfold State.status flagBit
  refine ⟨BitVec.extractLsb'_append_eq_right, ?_, ?_, ?_, ?_, ?_, ?_, ?_, ?_, ?reserved, ?lastErr, ?lastPath,
    ?upper⟩
  case reserved | lastErr | lastPath | upper =>
    ext i hi
    simp only [BitVec.getElem_extractLsb', BitVec.getLsbD_append]
    simp [Nat.add_comm _ i, hi]
  all_goals
    simp only [BitVec.getLsbD_append]
    simp

/-! ## The bins of the frontend -/

theorem targetBins_chunkBins (c : CfgRegs) (x : List F64) : targetBins c (chunkBins c x) =
    ((List.range c.binCount).filter fun k => c.inBand (c.binFreq k)).map fun k => ⟨c.binFreq k, specmag x k⟩ :=
  List.filter_map

theorem otherBins_chunkBins (c : CfgRegs) (x : List F64) : otherBins c (chunkBins c x) =
    ((List.range c.binCount).filter fun k => !c.inBand (c.binFreq k)).map fun k => ⟨c.binFreq k, specmag x k⟩ :=
  List.filter_map

theorem meanMag_map (l : List Nat) (bin : Nat → Bin) : meanMag (l.map bin) =
    F64.div .pure (F64.sum (l.map fun k => (bin k).mag)) (F64.ofNat l.length) := by
  simp [meanMag, Function.comp_def]

theorem chunkBins_ne_nil (c : CfgRegs) (x : List F64) : chunkBins c x ≠ [] := by
  simp [chunkBins, CfgRegs.binCount]

theorem otherBins_eq_self {c : CfgRegs} {l : List Bin} (h : targetBins c l = []) : otherBins c l = l := by
  simpa [targetBins, otherBins] using h

theorem frontend_background_of_others {c : CfgRegs} {x : List F64} (h : otherBins c (chunkBins c x) ≠ []) :
    (frontend c x).background = meanMag (otherBins c (chunkBins c x)) :=
  (frontend_background_cases c x).elim (fun hc => absurd hc.1 h) And.right

theorem frontend_background_of_no_others {c : CfgRegs} {x : List F64} (h : otherBins c (chunkBins c x) = []) :
    (frontend c x).background = F64.mul .pure (F64.ratio 1 10) (frontend c x).meanAll := by
  rw [frontend_meanAll]
  exact (frontend_background_cases c x).elim And.right fun hc => absurd h hc.1

theorem frontend_sentinel {c : CfgRegs} {x : List F64} (h : targetBins c (chunkBins c x) = []) :
    frontend c x = ⟨F64.zero false, F64.zero false, (frontend c x).background, (frontend c x).meanAll, true⟩ := by
  simp only [frontend, h]

/-- R142: with no target bin every bin is an other bin, so the background is the mean of all. -/
theorem frontend_background_of_no_target {c : CfgRegs} {x : List F64} (h : targetBins c (chunkBins c x) = []) :
    (frontend c x).background = (frontend c x).meanAll := by
  have hall := otherBins_eq_self h
  have hne : otherBins c (chunkBins c x) ≠ [] := by rw [hall]; exact chunkBins_ne_nil c x
  rw [frontend_background_of_others hne, hall, frontend_meanAll]

/-- Settles O20: the bin numbers of the statement name the model's bins, in the band and out of it. -/
theorem emptyBandGivesSentinel : Obligations.EmptyBandGivesSentinel := by
  intro c x freq bins target others hfreq hbins htarget hothers
  obtain rfl : freq = c.binFreq := funext hfreq
  have htargetBins : targetBins c (chunkBins c x) = target.map fun k => ⟨c.binFreq k, specmag x k⟩ := by
    rw [targetBins_chunkBins, htarget, hbins]; rfl
  have hotherBins : otherBins c (chunkBins c x) = others.map fun k => ⟨c.binFreq k, specmag x k⟩ := by
    rw [otherBins_chunkBins, hothers, hbins]; rfl
  have hchunkBins : chunkBins c x = bins.map fun k => ⟨c.binFreq k, specmag x k⟩ := by rw [hbins]; rfl
  refine ⟨htargetBins, ?_, fun hsome => ?_, fun hnone => ?_, fun hempty => ?_⟩
  · rw [frontend_meanAll, hchunkBins, meanMag_map]
  · have hne : otherBins c (chunkBins c x) ≠ [] := by simpa [hotherBins] using hsome
    rw [frontend_background_of_others hne, hotherBins, meanMag_map]
  · rw [frontend_background_of_no_others (by simp [hotherBins, hnone]), tenth_pattern]
  · have hnil : targetBins c (chunkBins c x) = [] := by simp [htargetBins, hempty]
    rw [frontend_sentinel hnil, frontend_background_of_no_target hnil, zero_pattern]
    rfl

end Sys2Proof.Machine
end

section
/-! PROOFS. What one step can leave, said once for every command and every illegal word: a claim about all commands is a
case split over `Effect`, not over the meanings. -/

namespace Sys2Proof.Machine

variable {s t : State}

/-- A PROC past the learning phase, after classification and window append (R172 to R175) and before the sustained
analysis. -/
def State.classifiedBy (s : State) (st : Stamp) : State :=
  ((s.afterStamp st).unlatched (s.stampTime st)).classified (s.stampTime st) (frontend s.cfg s.inBuf)

section
variable (s : State) (st : Stamp)

@[simp] theorem State.classifiedBy_cfg : (s.classifiedBy st).cfg = s.cfg := by simp [State.classifiedBy]
@[simp] theorem State.classifiedBy_configured : (s.classifiedBy st).configured = s.configured :=
  by simp [State.classifiedBy]
@[simp] theorem State.classifiedBy_startTime : (s.classifiedBy st).startTime =
    if s.started then s.startTime else s.stampTime st :=
  by simp [State.classifiedBy]
@[simp] theorem State.classifiedBy_started : (s.classifiedBy st).started = true := rfl
@[simp] theorem State.classifiedBy_lastTime : (s.classifiedBy st).lastTime = s.stampTime st := rfl
@[simp] theorem State.classifiedBy_ambLevel : (s.classifiedBy st).ambLevel = s.ambLevel :=
  by simp [State.classifiedBy]
@[simp] theorem State.classifiedBy_ambCount : (s.classifiedBy st).ambCount = s.ambCount :=
  by simp [State.classifiedBy]
@[simp] theorem State.classifiedBy_learn : (s.classifiedBy st).learn = false := rfl
@[simp] theorem State.classifiedBy_lastAlarmTime : (s.classifiedBy st).lastAlarmTime = s.lastAlarmTime :=
  by simp [State.classifiedBy]
@[simp] theorem State.classifiedBy_hasAlarm : (s.classifiedBy st).hasAlarm = s.hasAlarm :=
  by simp [State.classifiedBy]
@[simp] theorem State.classifiedBy_latch : (s.classifiedBy st).latch = false := rfl
@[simp] theorem State.classifiedBy_evt : (s.classifiedBy st).evt = s.evt := by simp [State.classifiedBy]
@[simp] theorem State.classifiedBy_evtValid : (s.classifiedBy st).evtValid = s.evtValid :=
  by simp [State.classifiedBy]
@[simp] theorem State.classifiedBy_lastErr : (s.classifiedBy st).lastErr = s.lastErr := by simp [State.classifiedBy]

end

/-- What a command word can leave, by the command it decodes to, or `none` for an illegal word (R83). -/
inductive Effect (s : State) : Option Instr → State → Prop
  | answer {o : Option Instr} (data : Word) : Effect s o (s.respond .ok data)
  | refuse {o : Option Instr} (c : ResultCode) (info : Word) (herr : isErrorCode c.byte = true) :
      Effect s o (s.raise c info)
  | configure (sel : BitVec 8) (v : Word) (r : CfgReg) (hconf : s.configured = false) :
      Effect s (some (.cfgw sel v)) ({ s with cfg := s.cfg.write r v }.respond .ok 0#64)
  | init (hlegal : s.cfg.check = 0#64) : Effect s (some .init) (s.initInstance.respond .ok 0#64)
  | srst : Effect s (some .srst) ({ s.clearInstance with configured := false }.respond .ok 0#64)
  | overflow (x : F64) (hconf : s.configured = true) :
      Effect s (some (.push x)) ({ s with ovf := true }.raise .errBufFull 0#64)
  | push (x : F64) (hconf : s.configured = true) (hfill : s.fill ≠ s.chunkLen) :
      Effect s (some (.push x)) ({ s with inBuf := s.inBuf ++ [x] }.respond .ok 0#64)
  | analyse (hconf : s.configured = true) :
      Effect s (some .anlz) ((s.emptyBuffer.setFrontend (frontend s.cfg s.inBuf)).respond .ok 0#64)
  | wrongLength {i : Instr} (hconf : s.configured = true) :
      Effect s (some i) (s.emptyBuffer.raise .errWrongLength 0#64)
  | badTime (st : Stamp) (hconf : s.configured = true) :
      Effect s (some (.proc st)) ((s.afterStamp st).emptyBuffer.raise .errTimestamp 0#64)
  | suppress (st : Stamp) (hconf : s.configured = true) (htime : s.timeOk (s.stampTime st) = true)
      (hlatch : s.latchInForce (s.stampTime st) = true) :
      Effect s (some (.proc st)) (((s.afterStamp st).accept (s.stampTime st)).finishPath .ok 1#8)
  | learn (st : Stamp) (hconf : s.configured = true) (htime : s.timeOk (s.stampTime st) = true)
      (hlearn : (s.unlatched (s.stampTime st)).learningAt (s.stampTime st) = true) :
      Effect s (some (.proc st))
        ((((s.afterStamp st).unlatched (s.stampTime st)).learnFrom (frontend s.cfg s.inBuf).background).finishPath
          .ok 2#8)
  | classify (st : Stamp) (hconf : s.configured = true) (htime : s.timeOk (s.stampTime st) = true)
      (hlearn : (s.unlatched (s.stampTime st)).learningAt (s.stampTime st) = false) :
      Effect s (some (.proc st)) ((s.classifiedBy st).finishPath .ok 3#8)
  | detect (st : Stamp) (d : Detection) (hconf : s.configured = true) (htime : s.timeOk (s.stampTime st) = true)
      (hlearn : (s.unlatched (s.stampTime st)).learningAt (s.stampTime st) = false) :
      Effect s (some (.proc st)) (((s.classifiedBy st).detect (s.stampTime st) d).finishPath .event 4#8)

/-! ## The PROC tests do not read the draw counter -/

@[simp] theorem timeOk_afterStamp (st : Stamp) (x : F64) : (s.afterStamp st).timeOk x = s.timeOk x := by
  cases st <;> rfl

@[simp] theorem latchInForce_afterStamp (st : Stamp) (x : F64) :
    (s.afterStamp st).latchInForce x = s.latchInForce x := by
  cases st <;> rfl

@[simp] theorem learningAt_afterStamp (st : Stamp) (x : F64) :
    ((s.afterStamp st).unlatched x).learningAt x = (s.unlatched x).learningAt x := by
  cases st <;> rfl

theorem latch_of_latchInForce {x : F64} (h : s.latchInForce x = true) : s.latch = true :=
  (Bool.and_eq_true_iff.mp h).1

theorem learn_of_unlatched_learningAt {x : F64} (h : (s.unlatched x).learningAt x = true) : s.learn = true :=
  (Bool.and_eq_true_iff.mp h).1

/-! ## Every command has one of the effects -/

theorem execProc_effect {st : Stamp} (h : execProc st s = .next t) : Effect s (some (.proc st)) t := by
  rcases execProc_cases h with ⟨-, rfl⟩ | ⟨hconf, -, rfl⟩ | ⟨hconf, -, rfl⟩
  · exact .refuse _ _ rfl
  · exact .wrongLength hconf
  rcases procAt_cases (s := s.afterStamp st) (s.stampTime st) with
    ⟨-, hp⟩ | ⟨htime, hlatch, hp⟩ | ⟨htime, -, hlearn, hp⟩ | ⟨htime, -, hlearn, hp⟩ <;> rw [hp]
  · exact .badTime st hconf
  · exact .suppress st hconf (by simpa using htime) (by simpa using hlatch)
  · simpa using Effect.learn st hconf (by simpa using htime) (by simpa using hlearn)
  · have hshape : ((s.afterStamp st).unlatched (s.stampTime st)).classified (s.stampTime st)
        (frontend (s.afterStamp st).cfg (s.afterStamp st).inBuf) = s.classifiedBy st := by simp [State.classifiedBy]
    rw [hshape]
    rcases analysed_cases (s := s.classifiedBy st) (s.stampTime st) with ⟨-, hp⟩ | ⟨d, -, hp⟩ <;> rw [hp]
    · exact .classify st hconf (by simpa using htime) (by simpa using hlearn)
    · exact .detect st d hconf (by simpa using htime) (by simpa using hlearn)

theorem exec_effect {i : Instr} (h : exec i s = .next t) : Effect s (some i) t := by
  cases i with
  | nop => injection h with h; exact h ▸ .answer _
  | cfgw sel v =>
    rcases execCfgw_cases h with ⟨-, rfl⟩ | ⟨_, -, -, rfl⟩ | ⟨r, -, hconf, rfl⟩
    · exact .refuse _ _ rfl
    · exact .refuse _ _ rfl
    · exact .configure sel v r hconf
  | cfgr sel =>
    rcases execCfgr_cases h with ⟨-, rfl⟩ | ⟨_, -, rfl⟩
    · exact .refuse _ _ rfl
    · exact .answer _
  | init =>
    rcases execInit_cases h with ⟨-, rfl⟩ | ⟨-, -, rfl⟩ | ⟨-, hlegal, rfl⟩
    · exact .refuse _ _ rfl
    · exact .refuse _ _ rfl
    · exact .init hlegal
  | srst => injection h with h; exact h ▸ .srst
  | push x =>
    rcases execPush_cases h with ⟨-, rfl⟩ | ⟨hconf, -, rfl⟩ | ⟨hconf, hfill, rfl⟩
    · exact .refuse _ _ rfl
    · exact .overflow x hconf
    · exact .push x hconf hfill
  | proc st => exact execProc_effect h
  | anlz =>
    rcases execAnlz_cases h with ⟨-, rfl⟩ | ⟨hconf, -, rfl⟩ | ⟨hconf, -, rfl⟩
    · exact .refuse _ _ rfl
    · exact .wrongLength hconf
    · exact .analyse hconf
  | regr sel =>
    rcases execRegr_cases h with ⟨-, rfl⟩ | ⟨_, -, rfl⟩
    · exact .refuse _ _ rfl
    · exact .answer _
  | winr sel idx =>
    rcases execWinr_cases h with rfl | ⟨_, _, -, -, rfl⟩
    · exact .refuse _ _ rfl
    · exact .answer _
  | evtr sel =>
    rcases execEvtr_cases h with ⟨-, rfl⟩ | ⟨_, -, rfl⟩
    · exact .refuse _ _ rfl
    · exact .answer _

theorem issue_effect {w : CmdWord} {d : Word} (h : issue w d s = .next t) : Effect s (decode w d).toOption t := by
  unfold issue at h
  split at h
  · next hd => injection h with h; rw [hd]; exact h ▸ .refuse _ _ rfl
  · next i hd => rw [hd]; exact exec_effect h

/-- A step takes P to Q when P does not read the ports and every act at them does: idling, the reset input, a word. -/
theorem step_takes {P Q : State → Prop}
    (hport : ∀ (s : State) (rest : List HostAct), P s → P { s with host := rest })
    (hidle : ∀ s, P s → Q s) (hreset : ∀ s : State, Q s.hardReset)
    (hword : ∀ (s : State) (o : Option Instr) (t : State), P s → Effect s o t → Q t)
    (hs : P s) (h : step s = .next t) : Q t := by
  rcases step_cases (s := s) with ⟨-, hstep⟩ | ⟨rest, -, hstep⟩ | ⟨w, d, rest, -, hstep⟩ <;> rw [hstep] at h
  · injection h with h
    exact h ▸ hidle s hs
  · injection h with h
    exact h ▸ hreset _
  · exact hword _ _ t (hport s rest hs) (issue_effect h)

end Sys2Proof.Machine
end

section
/-! PROOFS. The invariant (spec 10 R22, R36, R45): each operation on the state keeps it, then every effect, then every
step. -/

namespace Sys2Proof.Machine

variable {s t : State}

/-! ## What its premises say -/

theorem timeOk_iff {x : F64} :
    s.timeOk x = true ↔ x.isFinite = true ∧ (s.started = true → F64.le s.lastTime x = true) := by
  cases hs : s.started <;> simp [State.timeOk, F64.ge, hs]

theorem pairwise_appendWindow {R : Window → Window → Prop} {l : List Window} {w : Window} (hl : l.Pairwise R)
    (hw : ∀ v ∈ l, R v w) : (appendWindow l w).Pairwise R := by
  have happend : ∀ l' : List Window, l'.Sublist l → (l' ++ [w]).Pairwise R := fun l' hsub =>
    List.pairwise_append.mpr ⟨hl.sublist hsub, List.pairwise_singleton R w,
      fun v hv u hu => List.mem_singleton.mp hu ▸ hw v (hsub.subset hv)⟩
  unfold appendWindow
  split
  · exact happend _ (List.tail_sublist l)
  · exact happend _ (List.Sublist.refl l)

theorem State.Inv.started_of_window (h : s.Inv) {w : Window} (hw : w ∈ s.windows) : s.started = true := by
  refine h.learned (Bool.eq_false_iff.mpr fun hlearn => ?_)
  obtain ⟨-, -, hnil⟩ := h.learning hlearn
  exact List.not_mem_nil (hnil ▸ hw)

/-! ## Each operation keeps it -/

/-- Whether configured or not, the invariant reads neither the ports, nor LAST_ERR, nor the count of WALLCLK draws. -/
theorem State.Inv.with_ports (h : s.Inv) (err : U8) (resp : Option Response) (acts : List HostAct) (draws : Nat) :
    { s with lastErr := err, resp := resp, host := acts, wallDraws := draws }.Inv :=
  { h with
    cleared := fun hconf => congrArg
      (fun u : State => { u with lastErr := err, resp := resp, host := acts, wallDraws := draws }) (h.cleared hconf) }

/-- While configured, the invariant reads of the registers below only that FILL is at most CHUNK_SIZE. -/
theorem State.Inv.with_data (h : s.Inv) (hconf : s.configured = true) {buf : List F64} (hbuf : buf.length ≤ s.chunkLen)
    (ovf : Bool) (fe : FrontendResult) (valid : Bool) (level : F64) (count : U64) (path : U8) (draws : Nat) :
    { s with
      inBuf := buf, ovf := ovf, fe := fe, feValid := valid, ambLevel := level, ambCount := count, lastPath := path,
      nanDraws := draws }.Inv :=
  { h with
    cleared := fun hfree => Bool.noConfusion (hconf.symm.trans hfree)
    fillBound := fun _ => hbuf }

theorem State.Inv.with_cfg (h : s.Inv) (hconf : s.configured = false) (c : CfgRegs) : { s with cfg := c }.Inv :=
  { h with
    cleared := fun _ => congrArg (fun u : State => { u with cfg := c }) (h.cleared hconf)
    legal := fun hc => Bool.noConfusion (hc.symm.trans hconf)
    fillBound := fun hc => Bool.noConfusion (hc.symm.trans hconf) }

theorem inv_clearInstance (s : State) {c : Bool} (hlegal : c = true → s.cfg.check = 0#64) :
    { s.clearInstance with configured := c }.Inv where
  cleared hc := by subst hc; rfl
  legal := hlegal
  fillBound _ := Nat.zero_le _
  winBound := Nat.zero_le _
  learning _ := ⟨rfl, rfl, rfl⟩
  latched := nofun
  times := nofun
  learned := nofun
  windowTimes := nofun
  windowOrder := .nil

theorem State.Inv.afterStamp (h : s.Inv) (st : Stamp) : (s.afterStamp st).Inv := by
  cases st with
  | wall => exact h.with_ports _ _ _ _
  | given x => exact h

theorem State.Inv.accept (h : s.Inv) (hconf : s.configured = true) {x : F64} (htime : s.timeOk x = true) :
    (s.accept x).Inv := by
  obtain ⟨hfin, hlast⟩ := timeOk_iff.mp htime
  exact { h with
    cleared := fun hfree => Bool.noConfusion (hconf.symm.trans hfree)
    fillBound := fun _ => Nat.zero_le _
    times := fun _ => by
      cases hs : s.started with
      | false => simpa [hs, hfin] using F64.le_refl (F64.isNaN_of_isFinite hfin)
      | true =>
        obtain ⟨hstart, -, hle⟩ := h.times hs
        simpa [hs, hfin, hstart] using F64.le_trans hle (hlast hs)
    learned := fun _ => rfl
    windowTimes := fun w hw => F64.le_trans (h.windowTimes w hw) (hlast (h.started_of_window hw)) }

theorem State.Inv.unlatch (h : s.Inv) (hconf : s.configured = true) : { s with latch := false }.Inv :=
  { h with
    cleared := fun hfree => Bool.noConfusion (hconf.symm.trans hfree)
    learning := fun hlearn => ⟨rfl, (h.learning hlearn).2⟩
    latched := nofun }

theorem State.Inv.unlatched (h : s.Inv) (hconf : s.configured = true) {x : F64} (htime : s.timeOk x = true) :
    (s.unlatched x).Inv :=
  ((h.accept hconf htime).unlatch hconf).with_data hconf (Nat.zero_le _) _ _ _ _ _ _ _

/-- R36, R45 item 7: a window is appended at LAST_TIME, which no earlier window's time exceeds. -/
theorem State.Inv.classified (h : s.Inv) (hconf : s.configured = true) (hstarted : s.started = true)
    (hlatch : s.latch = false) (r : FrontendResult) : (s.classified s.lastTime r).Inv := by
  obtain ⟨-, hfin, -⟩ := h.times hstarted
  exact { h with
    cleared := fun hfree => Bool.noConfusion (hconf.symm.trans hfree)
    winBound := length_appendWindow_le _ h.winBound
    learning := nofun
    latched := fun hl => Bool.noConfusion (hl.symm.trans hlatch)
    learned := fun _ => hstarted
    windowTimes := fun w hw => by
      rcases mem_appendWindow hw with hold | rfl
      · exact h.windowTimes w hold
      · exact F64.le_refl (F64.isNaN_of_isFinite hfin)
    windowOrder := pairwise_appendWindow h.windowOrder h.windowTimes }

theorem State.Inv.detect (h : s.Inv) (hconf : s.configured = true) (hlearn : s.learn = false) (x : F64)
    (d : Detection) : (s.detect x d).Inv :=
  { h with
    cleared := fun hfree => Bool.noConfusion (hconf.symm.trans hfree)
    learning := fun hl => Bool.noConfusion (hl.symm.trans hlearn)
    latched := fun _ => ⟨rfl, rfl⟩ }

theorem State.Inv.finishPath (h : s.Inv) (hconf : s.configured = true) (c : ResultCode) (path : U8) :
    (s.finishPath c path).Inv :=
  (h.with_data hconf (h.fillBound hconf) _ _ _ _ _ path _).with_ports _ _ _ _

theorem State.Inv.classifiedBy (h : s.Inv) (hconf : s.configured = true) {st : Stamp}
    (htime : s.timeOk (s.stampTime st) = true) : (s.classifiedBy st).Inv :=
  have hu := (h.afterStamp st).unlatched (by simpa using hconf) (by simpa using htime)
  hu.classified (by simpa using hconf) rfl rfl _

/-! ## Every step keeps it -/

theorem Effect.inv {o : Option Instr} (he : Effect s o t) (h : s.Inv) : t.Inv := by
  cases he with
  | answer | refuse => exact h.with_ports _ _ _ _
  | configure _ _ _ hconf => exact (h.with_cfg hconf _).with_ports _ _ _ _
  | init hlegal => exact (inv_clearInstance s fun _ => hlegal).with_ports _ _ _ _
  | srst => exact (inv_clearInstance s (c := false) nofun).with_ports _ _ _ _
  | overflow _ hconf => exact (h.with_data hconf (h.fillBound hconf) _ _ _ _ _ _ _).with_ports _ _ _ _
  | push x hconf hfill =>
    have hroom : (s.inBuf ++ [x]).length ≤ s.chunkLen := by
      rw [List.length_append]
      exact Nat.lt_of_le_of_ne (h.fillBound hconf) hfill
    exact (h.with_data hconf hroom _ _ _ _ _ _ _).with_ports _ _ _ _
  | analyse hconf | wrongLength hconf =>
    exact (h.with_data hconf (Nat.zero_le _) _ _ _ _ _ _ _).with_ports _ _ _ _
  | badTime st hconf =>
    exact ((h.afterStamp st).with_data (by simpa using hconf) (Nat.zero_le _) _ _ _ _ _ _ _).with_ports _ _ _ _
  | suppress st hconf htime =>
    exact ((h.afterStamp st).accept (by simpa using hconf) (by simpa using htime)).finishPath (by simpa using hconf) _ _
  | learn st hconf htime =>
    have hu := (h.afterStamp st).unlatched (by simpa using hconf) (by simpa using htime)
    exact (hu.with_data (by simpa using hconf) (Nat.zero_le _) _ _ _ _ _ _ _).finishPath (by simpa using hconf) _ _
  | classify st hconf htime =>
    exact (h.classifiedBy hconf htime).finishPath (by simpa using hconf) _ _
  | detect st d hconf htime =>
    exact ((h.classifiedBy hconf htime).detect (by simpa using hconf) rfl _ d).finishPath
      (by simpa using hconf) _ _

theorem State.Inv.with_host (h : s.Inv) (rest : List HostAct) : { s with host := rest }.Inv :=
  h.with_ports _ _ rest _

theorem inv_hardReset (s : State) : s.hardReset.Inv := inv_clearInstance s.hardReset (c := false) nofun

/-- Settles O50: every effect keeps the invariant, and the reset input builds it. -/
theorem invariantKeptByEveryStep : Obligations.InvariantKeptByEveryStep := fun _ _ hs =>
  step_takes (fun _ rest h => h.with_host rest) (fun _ h => h) inv_hardReset (fun _ _ _ h he => he.inv h) hs

end Sys2Proof.Machine
end

section
/-! PROOFS. What the learning phase (spec 10 R26 to R28, 43 R169, R170) and the event registers (R29, R31, R38, R39, 44
R204, R205) do over a step. -/

namespace Sys2Proof.Machine

variable {s t : State}

/-! ## The learning phase -/

/-- The registers of the learning phase, kept: START_TIME once started, LEARN, and with LEARN 0 the ambient ones. -/
structure State.LearningKept (s t : State) : Prop where
  startTime : s.started = true → t.startTime = s.startTime
  learn : t.learn = s.learn
  ambient : s.learn = false → t.ambLevel = s.ambLevel ∧ t.ambCount = s.ambCount

/-- A PROC classifies its chunk: LEARN is 0 after it, and if it was 1 before, the learning time is over (R169). -/
structure State.LearningOver (s t : State) : Prop where
  startTime : s.started = true → t.startTime = s.startTime
  learn : t.learn = false
  elapsed : s.learn = true → F64.lt (F64.sub .pure t.lastTime t.startTime) t.cfg.ambLearnTime = false
  ambient : t.ambLevel = s.ambLevel ∧ t.ambCount = s.ambCount

theorem learningOver_of_not_learningAt {x : F64} (hlearn : (s.unlatched x).learningAt x = false)
    (hstart : t.startTime = if s.started then s.startTime else x) (hlast : t.lastTime = x) (hcfg : t.cfg = s.cfg)
    (hover : t.learn = false) (hamb : t.ambLevel = s.ambLevel ∧ t.ambCount = s.ambCount) : s.LearningOver t where
  startTime hs := by simp [hstart, hs]
  learn := hover
  elapsed hl := by simpa [State.learningAt, hl, hstart, hlast, hcfg] using hlearn
  ambient := hamb

theorem Effect.learning_cases {o : Option Instr} (he : Effect s o t) :
    s.LearningKept t ∨ ((o = some .init ∨ o = some .srst) ∧ t.started = false ∧ t.learn = true) ∨
    (∃ st, o = some (.proc st)) ∧ s.LearningOver t := by
  cases he with
  | answer | refuse | configure | overflow | push | analyse | wrongLength =>
    exact .inl ⟨fun _ => rfl, rfl, fun _ => ⟨rfl, rfl⟩⟩
  | badTime => exact .inl ⟨by simp, by simp, by simp⟩
  | init => exact .inr (.inl ⟨.inl rfl, rfl, rfl⟩)
  | srst => exact .inr (.inl ⟨.inr rfl, rfl, rfl⟩)
  | suppress st => exact .inl ⟨fun hs => by simp [hs], by simp, by simp⟩
  | learn st _ _ hlearn =>
    exact .inl ⟨fun hs => by simp [hs], by simp, by simp [learn_of_unlatched_learningAt hlearn]⟩
  | classify st _ _ hlearn | detect st _ _ _ hlearn =>
    exact .inr (.inr ⟨⟨st, rfl⟩, learningOver_of_not_learningAt hlearn (by simp)
      (by simp) (by simp) (by simp)
      (by simp)⟩)

/-- Settles O46: a command keeps the learning phase, starts it anew, or ends it in a PROC. -/
theorem learningEndsOnce : Obligations.LearningEndsOnce := by
  intro i s t h
  rcases (exec_effect h).learning_cases with hkept | ⟨hclear, hstarted, hlearn⟩ | ⟨⟨st, hproc⟩, hover⟩
  · refine ⟨fun hs _ => hkept.startTime hs, fun hl ht => ?_, fun hl ht => ?_, fun hl _ _ => hkept.ambient hl⟩
    · exact Bool.noConfusion ((hl.symm.trans hkept.learn.symm).trans ht)
    · exact Bool.noConfusion ((ht.symm.trans hkept.learn).trans hl)
  · have hi : i = .init ∨ i = .srst := hclear.imp Option.some.inj Option.some.inj
    refine ⟨fun _ hs => ?_, fun _ hl => ?_, fun _ _ => hi, fun _ hinit hsrst => ?_⟩
    · exact Bool.noConfusion (hs.symm.trans hstarted)
    · exact Bool.noConfusion (hlearn.symm.trans hl)
    · exact (hi.elim hinit hsrst).elim
  · refine ⟨fun hs _ => hover.startTime hs, fun hl _ => ⟨⟨st, Option.some.inj hproc⟩, hover.elapsed hl⟩,
      fun _ hl => ?_, fun _ _ _ => hover.ambient⟩
    exact Bool.noConfusion (hl.symm.trans hover.learn)

/-! ## A started detector has counted -/

theorem legal_ambLearnTime {c : CfgRegs} (h : c.check = 0#64) : legalPositive c.ambLearnTime = true := by
  have hbit : c.check.getLsbD 4 = false := by rw [h]; rfl
  unfold CfgRegs.check CfgRegs.badBit at hbit
  simp only [BitVec.getLsbD_append] at hbit
  simpa [CfgReg.legal, CfgRegs.read] using hbit

/-- R166, R169: the first PROC accepted has elapsed time 0, so it always learns. -/
theorem State.Inv.started_of_not_learningAt (h : s.Inv) (hconf : s.configured = true) {x : F64}
    (htime : s.timeOk x = true) (hl : (s.unlatched x).learningAt x = false) : s.started = true := by
  by_contra hstarted
  rw [Bool.not_eq_true] at hstarted
  have hlearn : s.learn = true := by
    by_contra hlearn
    exact Bool.noConfusion ((h.learned (Bool.eq_false_iff.mpr hlearn)).symm.trans hstarted)
  have hpos : F64.lt (F64.zero false) s.cfg.ambLearnTime = true :=
    (Bool.and_eq_true_iff.mp (legal_ambLearnTime (h.legal hconf))).2
  rw [show F64.zero false = 0#64 from zero_pattern false] at hpos
  simp [State.learningAt, hlearn, hstarted, F64.sub_self_of_isFinite _ (timeOk_iff.mp htime).1, hpos] at hl

theorem State.Inv.started_of_latch (h : s.Inv) (hlatch : s.latch = true) : s.started = true :=
  h.learned (Bool.eq_false_iff.mpr fun hlearn =>
    Bool.noConfusion (hlatch.symm.trans (h.learning hlearn).1))

theorem Effect.counted {o : Option Instr} (he : Effect s o t) (h : s.Inv) (hc : s.Counted)
    (hmax : s.ambCount ≠ 0xFFFFFFFFFFFFFFFF#64) : t.Counted := by
  cases he with
  | answer | refuse | configure | overflow | push | analyse | wrongLength => exact hc
  | badTime => exact fun hs => by simpa using hc (by simpa using hs)
  | init | srst => exact fun hs => Bool.noConfusion hs
  | suppress st _ _ hlatch => exact fun _ => by simpa using hc (h.started_of_latch (latch_of_latchInForce hlatch))
  | learn st =>
    have hnext : s.ambCount + 1#64 ≠ 0#64 := by bv_omega
    exact fun _ => by simpa using hnext
  | classify st hconf htime hlearn | detect st d hconf htime hlearn =>
    exact fun _ => by simpa using hc (h.started_of_not_learningAt hconf htime hlearn)

/-- Settles O52: only a learning PROC starts a detector, and it counts. -/
theorem learningIsCounted : Obligations.LearningIsCounted := by
  refine ⟨fun s t h hc hmax => ?_, fun s h hc _ hlearn => ?_⟩
  · exact step_takes (P := fun s => s.Inv ∧ s.Counted ∧ s.ambCount ≠ 0xFFFFFFFFFFFFFFFF#64)
      (fun _ rest ⟨h, hc, hmax⟩ => ⟨h.with_host rest, hc, hmax⟩) (fun _ ⟨_, hc, _⟩ => hc) (fun _ => nofun)
      (fun _ _ _ ⟨h, hc, hmax⟩ he => he.counted h hc hmax) ⟨h, hc, hmax⟩
  · have := hc (h.learned hlearn)
    bv_omega

/-! ## The event registers -/

/-- The event registers, HAS_ALARM and LAST_ALARM_TIME are kept, the latch not set, and, while
configured, the configuration is kept. -/
structure State.EventKept (s t : State) : Prop where
  evt : t.evt = s.evt
  lastAlarmTime : t.lastAlarmTime = s.lastAlarmTime
  evtValid : t.evtValid = s.evtValid
  hasAlarm : t.hasAlarm = s.hasAlarm
  latch : t.latch = true → s.latch = true
  cfg : s.configured = true → t.cfg = s.cfg

theorem Effect.event_cases {o : Option Instr} (he : Effect s o t) :
    s.EventKept t ∨
    ((o = some .init ∨ o = some .srst) ∧ ∃ c, t = { s.clearInstance with configured := c }.respond .ok 0#64) ∨
    ∃ st d, t = ((s.classifiedBy st).detect (s.stampTime st) d).finishPath .event 4#8 := by
  cases he with
  | answer | refuse | overflow | push | analyse | wrongLength =>
    exact .inl ⟨rfl, rfl, rfl, rfl, fun h => h, fun _ => rfl⟩
  | configure _ _ _ hfree =>
    exact .inl ⟨rfl, rfl, rfl, rfl, fun h => h, fun hconf => Bool.noConfusion (hconf.symm.trans hfree)⟩
  | init => exact .inr (.inl ⟨.inl rfl, true, rfl⟩)
  | srst => exact .inr (.inl ⟨.inr rfl, false, rfl⟩)
  | badTime | suppress | learn | classify =>
    exact .inl ⟨by simp, by simp, by simp,
      by simp, by simp, by simp⟩
  | detect st d => exact .inr (.inr ⟨st, d, rfl⟩)

/-- Settles O44: apart from INIT and SRST, only the effect that answers EVENT is no `State.EventKept`. -/
theorem onlyDetectionWritesEvent : Obligations.OnlyDetectionWritesEvent := by
  intro i s t h
  rcases (exec_effect h).event_cases with hkept | ⟨hclear, c, rfl⟩ | ⟨st, d, rfl⟩
  · refine ⟨fun hchange => ?_, fun hoff hon => Bool.noConfusion ((hkept.latch hon).symm.trans hoff)⟩
    simp [hkept.evt, hkept.lastAlarmTime, hkept.evtValid, hkept.hasAlarm] at hchange
  · have hi : i = .init ∨ i = .srst := hclear.imp Option.some.inj Option.some.inj
    exact ⟨fun _ => hi.imp_right .inl, fun _ hon => Bool.noConfusion hon⟩
  · exact ⟨fun _ => .inr (.inr rfl), fun _ _ => rfl⟩

theorem State.Inv.configured_of_evtValid (h : s.Inv) (hv : s.evtValid = true) : s.configured = true := by
  by_contra hconf
  have hclear := congrArg State.evtValid (h.cleared (Bool.eq_false_iff.mpr hconf))
  exact Bool.noConfusion (hclear.trans hv)

theorem State.EventKept.eventSound (hkept : s.EventKept t) (h : s.Inv) (he : s.EventSound) : t.EventSound where
  valid := by rw [hkept.evtValid, hkept.hasAlarm, he.valid]
  held hv := by
    rw [hkept.evtValid] at hv
    rw [hkept.evt, hkept.lastAlarmTime, hkept.cfg (h.configured_of_evtValid hv)]
    exact he.held hv
  absent hv := by
    rw [hkept.evtValid] at hv
    rw [hkept.evt, hkept.lastAlarmTime]
    exact he.absent hv

theorem Effect.eventSound {o : Option Instr} (he : Effect s o t) (h : s.Inv) (hs : s.EventSound) : t.EventSound := by
  rcases he.event_cases with hkept | ⟨-, c, rfl⟩ | ⟨st, d, rfl⟩
  · exact hkept.eventSound h hs
  · exact ⟨rfl, nofun, fun _ => ⟨rfl, rfl⟩⟩
  · exact ⟨rfl, fun _ => ⟨rfl, rfl, rfl⟩, nofun⟩

/-! ## LAST_ERR and LAST_PATH -/

theorem byte_mem_resultCodes (c : ResultCode) : c.byte ∈ resultCodes := by
  cases c <;> decide

/-- What LAST_ERR may hold after an error with this code (R40, R245). -/
theorem raise_err_sound (c : ResultCode) (h : isErrorCode c.byte = true) :
    c.byte = 0#8 ∨ (c.byte ∈ resultCodes ∧ isErrorCode c.byte = true) :=
  .inr ⟨byte_mem_resultCodes c, h⟩

theorem Effect.codesSound {o : Option Instr} (he : Effect s o t) (hs : s.CodesSound) : t.CodesSound := by
  cases he with
  | answer | configure | push | analyse => exact ⟨hs.err, hs.path, hs.started⟩
  | refuse c _ herr => exact ⟨raise_err_sound c herr, hs.path, hs.started⟩
  | overflow => exact ⟨raise_err_sound .errBufFull rfl, hs.path, hs.started⟩
  | wrongLength => exact ⟨raise_err_sound .errWrongLength rfl, hs.path, hs.started⟩
  | badTime => exact ⟨raise_err_sound .errTimestamp rfl, by simpa using hs.path, by simpa using hs.started⟩
  | init | srst => exact ⟨hs.err, by simp, by simp⟩
  | suppress | learn | classify | detect =>
    exact ⟨by simpa using hs.err, by simp, by simp⟩

/-! ## The reset input -/

theorem eventSound_hardReset (s : State) : s.hardReset.EventSound := ⟨rfl, nofun, fun _ => ⟨rfl, rfl⟩⟩

theorem codesSound_hardReset (s : State) : s.hardReset.CodesSound :=
  ⟨.inl rfl, Nat.zero_le 4, by simp [State.hardReset, State.reset]⟩

/-- Settles O54: each of the two properties is kept by every effect, and the reset input builds it. -/
theorem eventAndCodesStaySound : Obligations.EventAndCodesStaySound := by
  refine fun s t h hstep => ⟨fun hs => ?_, fun hs => ?_⟩
  · exact step_takes (P := fun s => s.Inv ∧ s.EventSound)
      (fun _ rest ⟨h, hs⟩ => ⟨h.with_host rest, hs.valid, hs.held, hs.absent⟩) (fun _ hs => hs.2)
      eventSound_hardReset (fun _ _ _ ⟨h, hs⟩ he => he.eventSound h hs) ⟨h, hs⟩ hstep
  · exact step_takes (fun _ _ hs => ⟨hs.err, hs.path, hs.started⟩) (fun _ hs => hs)
      codesSound_hardReset (fun _ _ _ hs he => he.codesSound hs) hs hstep

/-- Settles O51: the reset state is what the reset input leaves of itself. -/
theorem invariantHoldsAtReset : Obligations.InvariantHoldsAtReset :=
  ⟨inv_hardReset State.reset, nofun, nofun, eventSound_hardReset State.reset, codesSound_hardReset State.reset⟩

end Sys2Proof.Machine
end

section
/-! PROOFS. The word spaces (spec 20 R63, R66): which selectors name an entry, what the read-back commands answer (45
R220, R222), and when a command raises ERR_BAD_SELECT (60 R240). -/

namespace Sys2Proof.Machine

variable {s t : State} {sel : BitVec 8}

/-! ## The size of each space -/

theorem CfgReg.ofSel_eq_none : CfgReg.ofSel sel = none ↔ 8 < sel.toNat := by
  unfold CfgReg.ofSel
  split
  case h_10 => grind only
  all_goals simp [*]

theorem StatusReg.ofSel_eq_none : StatusReg.ofSel sel = none ↔ 0x0C < sel.toNat := by
  unfold StatusReg.ofSel
  split
  case h_14 => grind only
  all_goals simp [*]

theorem WindowField.ofSel_eq_none : WindowField.ofSel sel = none ↔ 4 < sel.toNat := by
  unfold WindowField.ofSel
  split
  case h_6 => grind only
  all_goals simp [*]

theorem EventField.ofSel_eq_none : EventField.ofSel sel = none ↔ 6 < sel.toNat := by
  unfold EventField.ofSel
  split
  case h_8 => grind only
  all_goals simp [*]

/-! ## REGR -/

theorem exec_regr_of_ofSel (s : State) (r : StatusReg) (h : StatusReg.ofSel sel = some r) :
    exec (.regr sel) s = .next (s.answered (s.readStatus r)) := by
  simp only [exec, execRegr, h]
  rfl

theorem exec_regr_of_none (s : State) (h : StatusReg.ofSel sel = none) :
    exec (.regr sel) s = .next (s.raisedWith 0x81#8 0#64) := by
  simp only [exec, execRegr, h]
  rfl

/-- Settles O37: each address names its register, and past the last one none is named. -/
theorem regrReadsStatusSpace : Obligations.RegrReadsStatusSpace := fun s =>
  ⟨exec_regr_of_ofSel s .status rfl, exec_regr_of_ofSel s .fill rfl, exec_regr_of_ofSel s .startTime rfl,
    exec_regr_of_ofSel s .lastTime rfl, exec_regr_of_ofSel s .ambLevel rfl, exec_regr_of_ofSel s .ambCount rfl,
    exec_regr_of_ofSel s .lastAlarmTime rfl, exec_regr_of_ofSel s .winCount rfl, exec_regr_of_ofSel s .fePeakMag rfl,
    exec_regr_of_ofSel s .fePeakFreq rfl, exec_regr_of_ofSel s .feBackground rfl,
    exec_regr_of_ofSel s .feMeanAll rfl, exec_regr_of_ofSel s .ident rfl,
    fun _ h => exec_regr_of_none s (StatusReg.ofSel_eq_none.mpr h)⟩

/-! ## The result code a command answers -/

/-- The RESULT value at the response port (R61). -/
def State.result (s : State) : Option U8 := s.resp.map Response.result

@[simp] theorem State.respond_result (s : State) (c : ResultCode) (d : Word) :
    (s.respond c d).result = some c.byte := rfl

@[simp] theorem State.raise_result (s : State) (c : ResultCode) (d : Word) : (s.raise c d).result = some c.byte := rfl

@[simp] theorem State.finishPath_result (s : State) (c : ResultCode) (p : U8) :
    (s.finishPath c p).result = some c.byte := rfl

/-- R240: no other code has the byte of ERR_BAD_SELECT. -/
@[simp] theorem ResultCode.byte_eq_badSelect (c : ResultCode) : c.byte = 0x81#8 ↔ c = .errBadSelect := by
  cases c <;> decide

theorem procAt_result_ne (x : F64) : (s.procAt x).result ≠ some 0x81#8 := by
  rcases procAt_cases (s := s) x with ⟨-, hp⟩ | ⟨-, -, hp⟩ | ⟨-, -, -, hp⟩ | ⟨-, -, -, hp⟩ <;> rw [hp]
  · simp
  · simp
  · simp
  · rcases analysed_cases (s := (s.unlatched x).classified x (frontend s.cfg s.inBuf)) x with
      ⟨-, ha⟩ | ⟨_, -, ha⟩ <;> simp [ha]

theorem execProc_result_ne {st : Stamp} (h : execProc st s = .next t) : t.result ≠ some 0x81#8 := by
  rcases execProc_cases h with ⟨-, rfl⟩ | ⟨-, -, rfl⟩ | ⟨-, -, rfl⟩
  · simp
  · simp
  · exact procAt_result_ne _

/-! ## ERR_BAD_SELECT -/

/-- The command's selector, or its window index, names no entry of its space (R66). -/
def State.LacksEntry (s : State) : Instr → Prop
  | .cfgw sel _ => CfgReg.ofSel sel = none
  | .cfgr sel => CfgReg.ofSel sel = none
  | .regr sel => StatusReg.ofSel sel = none
  | .winr sel idx => WindowField.ofSel sel = none ∨ s.windows[idx.toNat]? = none
  | .evtr sel => EventField.ofSel sel = none
  | .nop | .init | .srst | .push _ | .proc _ | .anlz => False

theorem lacksEntry_iff (s : State) (i : Instr) : s.LacksEntry i ↔
    i.wellFormed = false ∨ ∃ sel idx, i = .winr sel idx ∧ s.winCount ≤ idx.toNat := by
  cases i with
  | nop | init | srst | push | proc | anlz => simp [State.LacksEntry, Instr.wellFormed]
  | cfgw | cfgr => simp [State.LacksEntry, Instr.wellFormed, CfgReg.ofSel_eq_none]
  | regr => simp [State.LacksEntry, Instr.wellFormed, StatusReg.ofSel_eq_none]
  | winr => simp [State.LacksEntry, Instr.wellFormed, WindowField.ofSel_eq_none, State.winCount]
  | evtr => simp [State.LacksEntry, Instr.wellFormed, EventField.ofSel_eq_none]

theorem execWinr_lacks_or_reads {idx : BitVec 16} (h : execWinr sel idx s = .next t) :
    (s.LacksEntry (.winr sel idx) ∧ t = s.raise .errBadSelect 0#64) ∨
    (¬ s.LacksEntry (.winr sel idx) ∧ ∃ d, t = s.respond .ok d) := by
  cases hf : WindowField.ofSel sel with
  | none =>
    simp only [execWinr, hf] at h
    injection h with h
    exact .inl ⟨.inl hf, h.symm⟩
  | some f =>
    cases hw : s.windows[idx.toNat]? with
    | none =>
      simp only [execWinr, hf, hw] at h
      injection h with h
      exact .inl ⟨.inr hw, h.symm⟩
    | some w =>
      simp only [execWinr, hf, hw] at h
      injection h with h
      exact .inr ⟨by simp [State.LacksEntry, hf, hw], w.read f, h.symm⟩

/-- Each command looks its selector up first (R242), so it answers ERR_BAD_SELECT exactly when the lookup fails. -/
theorem result_eq_badSelect_iff {i : Instr} (h : exec i s = .next t) :
    t.result = some 0x81#8 ↔ s.LacksEntry i := by
  cases i with
  | nop | srst => injection h with h; subst h; simp [State.LacksEntry]
  | cfgw => rcases execCfgw_cases h with ⟨hs, rfl⟩ | ⟨_, hs, -, rfl⟩ | ⟨_, hs, -, rfl⟩ <;> simp [State.LacksEntry, hs]
  | cfgr => rcases execCfgr_cases h with ⟨hs, rfl⟩ | ⟨_, hs, rfl⟩ <;> simp [State.LacksEntry, hs]
  | init => rcases execInit_cases h with ⟨-, rfl⟩ | ⟨-, -, rfl⟩ | ⟨-, -, rfl⟩ <;> simp [State.LacksEntry]
  | push => rcases execPush_cases h with ⟨-, rfl⟩ | ⟨-, -, rfl⟩ | ⟨-, -, rfl⟩ <;> simp [State.LacksEntry]
  | proc => exact iff_of_false (execProc_result_ne h) id
  | anlz => rcases execAnlz_cases h with ⟨-, rfl⟩ | ⟨-, -, rfl⟩ | ⟨-, -, rfl⟩ <;> simp [State.LacksEntry]
  | regr => rcases execRegr_cases h with ⟨hs, rfl⟩ | ⟨_, hs, rfl⟩ <;> simp [State.LacksEntry, hs]
  | winr => rcases execWinr_lacks_or_reads h with ⟨hs, rfl⟩ | ⟨hs, _, rfl⟩ <;> simp [hs]
  | evtr => rcases execEvtr_cases h with ⟨hs, rfl⟩ | ⟨_, hs, rfl⟩ <;> simp [State.LacksEntry, hs]

/-- Settles O47: the result is ERR_BAD_SELECT exactly when the command lacks its entry, which is well-formedness and
the bound on the window index. -/
theorem badSelectExactly : Obligations.BadSelectExactly := by
  intro i s t r h hr
  have hresult : t.result = some r.result := congrArg (Option.map Response.result) hr
  rw [← lacksEntry_iff, ← result_eq_badSelect_iff h, hresult, Option.some_inj]

end Sys2Proof.Machine
end

section
/-! PROOFS. What a step runs (spec 20 R61, R69; 30 R83): one equation for each thing that can stand at the ports. -/

namespace Sys2Proof.Machine

variable {s : State} {w : CmdWord} {d : Word}

theorem issue_of_decode_ok {i : Instr} (h : decode w d = .ok i) : issue w d s = exec i s := by
  simp only [issue, h]

theorem issue_of_decode_error {e : Illegal} (h : decode w d = .error e) :
    issue w d s = .next (s.raisedWith 0x80#8 0#64) := by
  simp only [issue, h]
  rfl

theorem step_of_idle (h : s.host = []) : step s = .next s := by
  simp only [step, act, h]

theorem step_of_command {rest : List HostAct} (h : s.host = .command w d :: rest) :
    step s = issue w d { s with host := rest } := by
  simp only [step, act, h]

/-- Taking the placed word off the ports gives the state it was placed in. -/
theorem step_withFetchWord (s : State) (nbits n : Nat) :
    step (s.withFetchWord nbits n) = issue (tableCmd nbits n) (tableData nbits n) s :=
  step_of_command rfl

theorem decode_of_decodeTableWord {nbits n : Nat} {i : Instr} (h : decodeTableWord nbits n = some i) :
    decode (tableCmd nbits n) (tableData nbits n) = .ok i := by
  unfold decodeTableWord at h
  split at h
  · next j hj => rw [hj, Option.some.inj h]
  · exact nomatch h

/-- Settles O2: idling, a legal word and an illegal one are the step's equations, and a placed word is the first act. -/
theorem stepRunsTheNextCommand : Obligations.StepRunsTheNextCommand := by
  refine fun s => ⟨step_of_idle, fun w d rest i hhost hdec => ?_, fun w d rest e hhost hdec => ?_,
    fun nbits n i hdec => ?_⟩
  · rw [step_of_command hhost, issue_of_decode_ok hdec]
  · rw [step_of_command hhost, issue_of_decode_error hdec]
  · rw [step_withFetchWord, issue_of_decode_ok (decode_of_decodeTableWord hdec)]

end Sys2Proof.Machine
end

section
/-! PROOFS. The encoding (spec 30 R80 to R84). Each row of the opcode map is one opcode with the SEL and IDX bits that
must be 0, so a word selects a row exactly when its fields say so, and decoding and encoding are read off the fields. -/

namespace Sys2Proof

open Laws

/-! ## The fields of a command word -/

theorem fieldOp_commandWord (op sel : BitVec 8) (idx : BitVec 16) : fieldOp (commandWord op sel idx) = op := by
  unfold fieldOp commandWord
  ext i hi
  simp only [BitVec.getElem_extractLsb', BitVec.getLsbD_append]
  grind

theorem commandWord_fields (w : CmdWord) : commandWord (fieldOp w) (fieldSel w) (fieldIdx w) = w := by
  have hhigh : fieldOp w ++ fieldSel w = w.extractLsb' 16 16 :=
    BitVec.extractLsb'_append_extractLsb'_eq_extractLsb' rfl
  have hword : w.extractLsb' 16 16 ++ fieldIdx w = w.extractLsb' 0 32 :=
    BitVec.extractLsb'_append_extractLsb'_eq_extractLsb' rfl
  rw [commandWord, hhigh]
  exact hword.trans BitVec.extractLsb'_eq_self

theorem commandWord_inj {op op' sel sel' : BitVec 8} {idx idx' : BitVec 16} :
    commandWord op sel idx = commandWord op' sel' idx' ↔ op = op' ∧ sel = sel' ∧ idx = idx' := by
  refine ⟨fun h => ⟨?_, ?_, ?_⟩, by rintro ⟨rfl, rfl, rfl⟩; rfl⟩
  · simpa only [fieldOp_commandWord] using congrArg fieldOp h
  · simpa only [fieldSel_commandWord] using congrArg fieldSel h
  · simpa only [fieldIdx_commandWord] using congrArg fieldIdx h

theorem commandWord_and (op op' sel sel' : BitVec 8) (idx idx' : BitVec 16) :
    commandWord op sel idx &&& commandWord op' sel' idx' = commandWord (op &&& op') (sel &&& sel') (idx &&& idx') :=
  BitVec.and_append.trans (congrArg (· ++ (idx &&& idx')) BitVec.and_append)

/-! ## The opcode map by opcode -/

/-- OP of the command (R82). -/
def Opcode.op : Opcode → BitVec 8
  | .nop => 0x00#8
  | .cfgw => 0x01#8
  | .cfgr => 0x02#8
  | .init => 0x03#8
  | .srst => 0x04#8
  | .push => 0x10#8
  | .proc => 0x11#8
  | .anlz => 0x12#8
  | .regr => 0x20#8
  | .winr => 0x21#8
  | .evtr => 0x22#8

/-- The bits of SEL that must be 0 (R81, R82). -/
def Opcode.selZeros : Opcode → BitVec 8
  | .cfgw | .cfgr | .regr | .winr | .evtr => 0x00#8
  | .proc => 0xFE#8
  | .nop | .init | .srst | .push | .anlz => 0xFF#8

/-- The bits of IDX that must be 0 (R81, R82). -/
def Opcode.idxZeros : Opcode → BitVec 16
  | .winr => 0x0000#16
  | .nop | .cfgw | .cfgr | .init | .srst | .push | .proc | .anlz | .regr | .evtr => 0xFFFF#16

/-- The opcode's row of the map (`Opcode.row_mem`, `row_of_mem`). -/
def Opcode.row (o : Opcode) : OpcodeRow :=
  ⟨o, commandWord o.op 0#8 0#16, commandWord 0xFF#8 o.selZeros o.idxZeros⟩

theorem Opcode.row_mem (o : Opcode) : o.row ∈ opcodeMap := by
  cases o <;> decide

theorem row_of_mem : ∀ r ∈ opcodeMap, r.opcode.row = r := by decide

theorem Opcode.op_injective : Function.Injective Opcode.op := by
  have hmap : ∀ r ∈ opcodeMap, ∀ r' ∈ opcodeMap, r.opcode.op = r'.opcode.op → r.opcode = r'.opcode := by
    decide
  exact fun o o' => hmap o.row o.row_mem o'.row o'.row_mem

theorem OpcodeRow.selects_iff {r : OpcodeRow} {w : CmdWord} : r.selects w = true ↔ w &&& r.mask = r.pattern :=
  beq_iff_eq

/-- A word selects the opcode's row when OP is the opcode's and the bits that must be 0 are (R83). -/
theorem Opcode.row_selects_iff {o : Opcode} {w : CmdWord} : o.row.selects w = true ↔
    fieldOp w = o.op ∧ fieldSel w &&& o.selZeros = 0#8 ∧ fieldIdx w &&& o.idxZeros = 0#16 := by
  have hop : fieldOp w &&& 0xFF#8 = fieldOp w := BitVec.and_allOnes
  rw [OpcodeRow.selects_iff]
  conv_lhs => rw [← commandWord_fields w]
  rw [Opcode.row, commandWord_and, commandWord_inj, hop]

/-! ## Decoding -/

section
variable {w : CmdWord} {d : Word}

/-- OP tells the rows apart. -/
theorem selects_unique {r r' : OpcodeRow} (hr : r ∈ opcodeMap) (hr' : r' ∈ opcodeMap) (h : r.selects w = true)
    (h' : r'.selects w = true) : r = r' := by
  rw [← row_of_mem r hr, Opcode.row_selects_iff] at h
  rw [← row_of_mem r' hr', Opcode.row_selects_iff] at h'
  obtain ⟨hop, -⟩ := h
  obtain ⟨hop', -⟩ := h'
  rw [← row_of_mem r hr, ← row_of_mem r' hr', Opcode.op_injective (hop.symm.trans hop')]

theorem decode_of_row_selects {o : Opcode} (h : o.row.selects w = true) (d : Word) :
    decode w d = .ok (assembleOperands o w d) := by
  unfold decode
  split
  · next r hfind =>
    have hr : r.selects w = true := by simpa using List.find?_some hfind
    rw [selects_unique (List.mem_of_find?_eq_some hfind) o.row_mem hr h]
    rfl
  · next hfind => exact absurd h (List.find?_eq_none.mp hfind _ o.row_mem)

theorem decode_of_selects_none (h : ∀ r ∈ opcodeMap, ¬ r.selects w = true) (d : Word) :
    decode w d = .error (illegalWord w) := by
  simp only [decode, List.find?_eq_none.mpr h]

theorem decode_eq_ok_iff {i : Instr} :
    decode w d = .ok i ↔ ∃ o : Opcode, o.row.selects w = true ∧ assembleOperands o w d = i := by
  refine ⟨fun h => ?_, fun ⟨o, ho, hi⟩ => hi ▸ decode_of_row_selects ho d⟩
  by_cases hnone : ∀ r ∈ opcodeMap, ¬ r.selects w = true
  · rw [decode_of_selects_none hnone] at h
    exact nomatch h
  · push Not at hnone
    obtain ⟨r, hr, hsel⟩ := hnone
    rw [← row_of_mem r hr] at hsel
    rw [decode_of_row_selects hsel] at h
    exact ⟨r.opcode, hsel, Except.ok.inj h⟩

end

/-! ## Round trips -/

/-- Operand assembly reads back the operands of every command. -/
theorem operandFields (i : Instr) : OperandFields.Statement i := by
  cases i with
  | nop => exact OperandFields.nop
  | cfgw sel v => exact OperandFields.cfgw sel v
  | cfgr sel => exact OperandFields.cfgr sel
  | init => exact OperandFields.init
  | srst => exact OperandFields.srst
  | push x => exact OperandFields.push x
  | proc st => exact OperandFields.proc st
  | anlz => exact OperandFields.anlz
  | regr sel => exact OperandFields.regr sel
  | winr sel idx => exact OperandFields.winr sel idx
  | evtr sel => exact OperandFields.evtr sel

theorem commandWord_selects_iff {o : Opcode} {op sel : BitVec 8} {idx : BitVec 16} :
    o.row.selects (commandWord op sel idx) = true ↔
      op = o.op ∧ sel &&& o.selZeros = 0#8 ∧ idx &&& o.idxZeros = 0#16 := by
  rw [Opcode.row_selects_iff, fieldOp_commandWord, fieldSel_commandWord, fieldIdx_commandWord]

/-- Every command is encoded in a word of its own row. -/
theorem encode_selects (i : Instr) : (opcodeOf i).row.selects (encode i).1 = true := by
  cases i with
  | nop | init | srst | push | anlz => exact commandWord_selects_iff.mpr ⟨rfl, BitVec.zero_and, BitVec.zero_and⟩
  | proc st =>
    cases st with
    | wall => exact commandWord_selects_iff.mpr ⟨rfl, BitVec.zero_and, BitVec.zero_and⟩
    | given =>
      have htsv : 1#8 &&& Opcode.proc.selZeros = 0#8 := by decide
      exact commandWord_selects_iff.mpr ⟨rfl, htsv, BitVec.zero_and⟩
  | cfgw | cfgr | regr | evtr => exact commandWord_selects_iff.mpr ⟨rfl, BitVec.and_zero, BitVec.zero_and⟩
  | winr sel idx => exact commandWord_selects_iff.mpr ⟨rfl, BitVec.and_zero, BitVec.and_zero⟩

/-- Settles O5: the encoded word selects the row of its command, and operand assembly reads the operands back. -/
theorem decodeOfEncode : Obligations.DecodeOfEncode := fun i => by
  rw [decode_of_row_selects (encode_selects i)]
  exact congrArg Except.ok (operandFields i)

/-- Bits 7 to 1 of the SEL field of PROC being 0, TSV is all of it (R81). -/
theorem sel_eq_tsv {w : CmdWord} (h : fieldSel w &&& 0xFE#8 = 0#8) :
    fieldSel w = if fieldTsv w then 1#8 else 0#8 := by
  have htsv : fieldTsv w = (fieldSel w).getLsbD 0 := by simp [fieldTsv, fieldSel]
  have hbits : ∀ sel : BitVec 8, sel &&& 0xFE#8 = 0#8 → sel = if sel.getLsbD 0 then 1#8 else 0#8 := by decide
  rw [htsv]
  exact hbits _ h

theorem encode_assembleOperands {o : Opcode} {w : CmdWord} (h : o.row.selects w = true) (d : Word) :
    (encode (assembleOperands o w d)).1 = w := by
  obtain ⟨hop, hsel, hidx⟩ := Opcode.row_selects_iff.mp h
  have hfields := commandWord_fields w
  rw [hop] at hfields
  have hsel0 : o.selZeros = 0xFF#8 → fieldSel w = 0#8 := fun hz => by
    rw [hz] at hsel
    exact BitVec.and_allOnes.symm.trans hsel
  have hidx0 : o.idxZeros = 0xFFFF#16 → fieldIdx w = 0#16 := fun hz => by
    rw [hz] at hidx
    exact BitVec.and_allOnes.symm.trans hidx
  cases o with
  | nop | init | srst | push | anlz => rwa [hsel0 rfl, hidx0 rfl] at hfields
  | cfgw | cfgr | regr | evtr => rwa [hidx0 rfl] at hfields
  | winr => exact hfields
  | proc =>
    rw [sel_eq_tsv hsel, hidx0 rfl] at hfields
    rw [assembleOperands]
    generalize fieldTsv w = tsv at hfields ⊢
    cases tsv <;> exact hfields

/-- The DATA word is an operand, or operand assembly ignores it (R81). -/
theorem encode_data_or_ignored (o : Opcode) (w : CmdWord) (d : Word) :
    (encode (assembleOperands o w d)).2 = d ∨ ∀ d', assembleOperands o w d' = assembleOperands o w d := by
  cases o with
  | cfgw | push => exact .inl rfl
  | nop | cfgr | init | srst | anlz | regr | winr | evtr => exact .inr fun _ => rfl
  | proc => cases htsv : fieldTsv w <;> simp [assembleOperands, htsv, encode]

/-- Settles O6: the fields of a word that selects a row are those the command is encoded with. -/
theorem encodeOfDecode : Obligations.EncodeOfDecode := by
  intro w d i h
  obtain ⟨o, hsel, rfl⟩ := decode_eq_ok_iff.mp h
  refine ⟨encode_assembleOperands hsel d, (encode_data_or_ignored o w d).imp_right fun hignored d' => ?_⟩
  rw [decode_of_row_selects hsel, hignored]

/-- Settles O4: the legal words are encodings; PROC WALL, which ignores DATA, selects its row by its word alone. -/
theorem commandWordsDecode : Obligations.CommandWordsDecode :=
  ⟨decodeOfEncode .nop, decodeOfEncode (.cfgw 8#8 _), decodeOfEncode (.cfgr 255#8), decodeOfEncode .init,
    decodeOfEncode .srst, decodeOfEncode (.push _), decodeOfEncode (.proc (.given _)),
    decode_of_row_selects (encode_selects (.proc .wall)) _, decodeOfEncode .anlz, decodeOfEncode (.regr 0x0C#8),
    decodeOfEncode (.winr 0#8 99#16), decodeOfEncode (.evtr 3#8), rfl, rfl⟩

end Sys2Proof

namespace Sys2Proof.Machine

/-! ## At the ports -/

variable {w : CmdWord}

theorem issue_of_selects_none (h : ∀ r ∈ opcodeMap, ¬ r.selects w = true) (d : Word) (s : State) :
    issue w d s = .next (s.raisedWith 0x80#8 0#64) :=
  issue_of_decode_error (decode_of_selects_none h d)

/-- A command that lacks its entry raises ERR_BAD_SELECT and does nothing else (R66, R242). -/
theorem exec_of_lacksEntry {s : State} {i : Instr} (h : s.LacksEntry i) :
    exec i s = .next (s.raisedWith 0x81#8 0#64) := by
  cases i with
  | nop | init | srst | push | proc | anlz => exact False.elim h
  | cfgw sel v =>
    have hnone : CfgReg.ofSel sel = none := h
    simp only [exec, execCfgw, hnone]
    rfl
  | cfgr sel =>
    have hnone : CfgReg.ofSel sel = none := h
    simp only [exec, execCfgr, hnone]
    rfl
  | regr sel => exact exec_regr_of_none s h
  | winr sel idx =>
    rcases h with hnone | hnone
    · simp only [exec, execWinr, hnone]
      rfl
    · cases hf : WindowField.ofSel sel <;> simp only [exec, execWinr, hf, hnone] <;> rfl
  | evtr sel =>
    have hnone : EventField.ofSel sel = none := h
    simp only [exec, execEvtr, hnone]
    rfl

/-- Settles O7: OP tells the rows apart, decoding succeeds on the rows alone, and a selector out of range names no
entry. -/
theorem decodingSelectsOneRow : Obligations.DecodingSelectsOneRow := by
  refine fun w d => ⟨fun r hr r' hr' => selects_unique hr hr', ?_, fun hnone s => ?_, fun i hdec hbad s => ?_⟩
  · constructor
    · rintro ⟨i, hi⟩
      obtain ⟨o, ho, -⟩ := decode_eq_ok_iff.mp hi
      exact ⟨o.row, o.row_mem, OpcodeRow.selects_iff.mp ho⟩
    · rintro ⟨r, hr, hw⟩
      rw [← row_of_mem r hr, ← OpcodeRow.selects_iff] at hw
      exact ⟨_, decode_of_row_selects hw d⟩
  · exact issue_of_selects_none (fun r hr hsel => hnone r hr (OpcodeRow.selects_iff.mp hsel)) d s
  · rw [issue_of_decode_ok hdec]
    exact exec_of_lacksEntry ((lacksEntry_iff s i).mpr (.inl hbad))

/-- OP is reserved in the last word, and in the others a field that must be 0 is not (R84 items 1 and 2). -/
theorem selects_none_of_mem_illegalExamples (h : w ∈ [0x11030000#32, 0x20000001#32, 0x05000000#32]) :
    ∀ r ∈ opcodeMap, ¬ r.selects w = true := by
  simp only [List.mem_cons, List.not_mem_nil, or_false] at h
  rcases h with rfl | rfl | rfl <;> decide

theorem assemble_singleton {line : Text} (i : Instr) (h : assembleLine line = some [i]) :
    assemble [line] = some [.command (encode i).1 (encode i).2] := by
  simp [assemble, h]

/-- Settles O3: each line assembles to the encoding of its command, and the illegal words select no row. -/
theorem encodingExamplesOfR88 : Obligations.EncodingExamplesOfR88 := by
  refine ⟨assemble_singleton (.cfgw 1#8 64#64) ?_, assemble_singleton (.cfgw 2#8 0x4030000000000000#64) ?_,
    assemble_singleton (.cfgw 8#8 0x3FD0000000000000#64) ?_, assemble_singleton (.push 0xBFF0000000000000#64) ?_,
    assemble_singleton (.proc (.given 0x4022000000000000#64)) ?_, assemble_singleton (.proc .wall) ?_,
    assemble_singleton (.regr 4#8) ?_, assemble_singleton (.winr 0#8 99#16) ?_, assemble_singleton (.evtr 3#8) ?_,
    fun s d w hw => issue_of_selects_none (selects_none_of_mem_illegalExamples hw) d s⟩
  all_goals decide +kernel

end Sys2Proof.Machine
end

section
/-! PROOFS. Control and configuration (spec 40; 10 R20, R21): each control command by the case it is in, ConfigCheck bit
by bit (40 R106), and the configuration constant while CONFIGURED is 1 (R108). -/

namespace Sys2Proof.Machine

variable {s t : State} {sel : BitVec 8}

/-! ## Each command, by its case -/

/-- R242: the selector is looked up first, so only a register that exists can be locked. -/
theorem exec_cfgw_of_configured (v : Word) (hsel : sel.toNat ≤ 8) (hconf : s.configured = true) :
    exec (.cfgw sel v) s = .next (s.raisedWith 0x83#8 0#64) := by
  cases hreg : CfgReg.ofSel sel with
  | none => exact absurd (CfgReg.ofSel_eq_none.mp hreg) hsel.not_gt
  | some r =>
    simp only [exec, execCfgw, hreg, hconf]
    rfl

theorem exec_cfgw_of_unconfigured {r : CfgReg} (v : Word) (hreg : CfgReg.ofSel sel = some r)
    (hconf : s.configured = false) :
    exec (.cfgw sel v) s = .next ({ s with cfg := s.cfg.write r v }.answered 0#64) := by
  simp only [exec, execCfgw, hreg, hconf]
  rfl

theorem exec_cfgr_of_ofSel (s : State) (r : CfgReg) (hreg : CfgReg.ofSel sel = some r) :
    exec (.cfgr sel) s = .next (s.answered (s.cfg.read r)) := by
  simp only [exec, execCfgr, hreg]
  rfl

theorem exec_init_of_configured (hconf : s.configured = true) :
    exec .init s = .next (s.raisedWith 0x83#8 0#64) :=
  if_pos hconf

theorem exec_init_of_illegal (hconf : s.configured = false) (hcheck : s.cfg.check ≠ 0#64) :
    exec .init s = .next (s.raisedWith 0x84#8 s.cfg.check) :=
  (if_neg (Bool.eq_false_iff.mp hconf)).trans (if_pos hcheck)

theorem exec_init_of_legal (hconf : s.configured = false) (hcheck : s.cfg.check = 0#64) :
    exec .init s = .next (s.initInstance.answered 0#64) :=
  (if_neg (Bool.eq_false_iff.mp hconf)).trans (if_neg (not_not_intro hcheck))

/-- Settles O8: NOP only responds. -/
theorem nopChangesNothing : Obligations.NopChangesNothing := fun _ => rfl

/-- Settles O9: past the last register none is named; a named one is locked while configured and written
otherwise. -/
theorem cfgwStoresOrRefuses : Obligations.CfgwStoresOrRefuses := by
  refine fun s sel v => ⟨fun hsel => exec_of_lacksEntry (CfgReg.ofSel_eq_none.mpr hsel),
    exec_cfgw_of_configured v, fun hconf => ?_⟩
  have hstore (r : CfgReg) {sel : BitVec 8} (hreg : CfgReg.ofSel sel = some r) :=
    exec_cfgw_of_unconfigured v hreg hconf
  exact ⟨hstore .sampleRate rfl, hstore .chunkSize rfl, hstore .targetFreq rfl, hstore .freqTol rfl,
    hstore .ambLearnTime rfl, hstore .sustainTime rfl, hstore .latchTime rfl, hstore .minRatio rfl,
    hstore .occThresh rfl⟩

/-- Settles O10: each selector reads the register it names, and past the last one none is named. -/
theorem cfgrReturnsStoredBits : Obligations.CfgrReturnsStoredBits := fun s =>
  ⟨exec_cfgr_of_ofSel s .sampleRate rfl, exec_cfgr_of_ofSel s .chunkSize rfl, exec_cfgr_of_ofSel s .targetFreq rfl,
    exec_cfgr_of_ofSel s .freqTol rfl, exec_cfgr_of_ofSel s .ambLearnTime rfl, exec_cfgr_of_ofSel s .sustainTime rfl,
    exec_cfgr_of_ofSel s .latchTime rfl, exec_cfgr_of_ofSel s .minRatio rfl, exec_cfgr_of_ofSel s .occThresh rfl,
    fun _ hsel => exec_of_lacksEntry (CfgReg.ofSel_eq_none.mpr hsel)⟩

/-- Settles O11: INIT's three cases; the state it builds is the cleared one with CONFIGURED set. -/
theorem initBuildsCleanInstance : Obligations.InitBuildsCleanInstance := fun _ =>
  ⟨exec_init_of_configured, exec_init_of_illegal, exec_init_of_legal⟩

/-- Settles O13: SRST has one case, the cleared state with CONFIGURED 0. -/
theorem srstEndsInstance : Obligations.SrstEndsInstance := fun _ => rfl

/-! ## ConfigCheck -/

/-- R7: CHUNK_MAX. -/
theorem chunkMax_bounds : 4096 ≤ Config.chunkMax ∧ Config.chunkMax ≤ 2 ^ 32 - 1 := by
  have hextra : Config.chunkMaxExtra < 2 ^ 32 - 4096 := Nat.mod_lt _ (by decide)
  unfold Config.chunkMax
  omega

theorem one_pattern : F64.ofNat 1 = 0x3FF0000000000000#64 := by decide +kernel

theorem legalSampleRate_iff {v : U64} : legalSampleRate v = true ↔ 1 ≤ v.toNat ∧ v.toNat ≤ 2 ^ 32 - 1 := by
  simp only [legalSampleRate, Bool.and_eq_true, decide_eq_true_eq]

theorem legalChunkSize_iff {v : U64} : legalChunkSize v = true ↔ 1 ≤ v.toNat ∧ v.toNat ≤ Config.chunkMax := by
  simp only [legalChunkSize, withinChunkMax, Config.chunkMax, Bool.and_eq_true, decide_eq_true_eq]
  omega

theorem legalPositive_iff {v : F64} : legalPositive v = true ↔ v.isFinite = true ∧ F64.gt v 0#64 = true := by
  simp only [legalPositive, Bool.and_eq_true, zero_pattern, Bool.false_eq_true, if_false]

theorem legalFraction_iff {v : F64} :
    legalFraction v = true ↔ F64.gt v 0#64 = true ∧ F64.lt v 0x3FF0000000000000#64 = true := by
  simp only [legalFraction, Bool.and_eq_true, zero_pattern, one_pattern, Bool.false_eq_true, if_false]

/-- Bit i of the mask is the test of the register that selector i names (R20, R106). -/
theorem check_getLsbD_of_ofSel (c : CfgRegs) {r : CfgReg} (hreg : CfgReg.ofSel sel = some r) :
    c.check.getLsbD sel.toNat = !r.legal (c.read r) := by
  unfold CfgReg.ofSel at hreg
  unfold CfgRegs.check CfgRegs.badBit
  split at hreg
  case h_10 => exact nomatch hreg
  all_goals
    next hsel =>
      obtain rfl := Option.some.inj hreg
      simp only [hsel, BitVec.getLsbD_append]
      simp

/-- The nine tests fill the bits below 9, so bit 9 + j lies in the zeros above them. -/
theorem check_getLsbD_of_le (c : CfgRegs) {k : Nat} (hk : 9 ≤ k) : c.check.getLsbD k = false := by
  obtain ⟨j, rfl⟩ := Nat.exists_eq_add_of_le' hk
  unfold CfgRegs.check
  simp only [BitVec.getLsbD_append]
  simp

/-- Settles O12: each bit is the test of its register, and each test is R106's. -/
theorem configCheckMask : Obligations.ConfigCheckMask := by
  refine ⟨chunkMax_bounds, fun c => ?_⟩
  have hbit (sel : BitVec 8) {r : CfgReg} (hreg : CfgReg.ofSel sel = some r) :
      c.check.getLsbD sel.toNat = false ↔ r.legal (c.read r) = true := by
    rw [check_getLsbD_of_ofSel c hreg, Bool.not_eq_false']
  exact ⟨(hbit 0#8 rfl).trans legalSampleRate_iff, (hbit 1#8 rfl).trans legalChunkSize_iff,
    (hbit 2#8 rfl).trans legalPositive_iff, (hbit 3#8 rfl).trans legalPositive_iff,
    (hbit 4#8 rfl).trans legalPositive_iff, (hbit 5#8 rfl).trans legalPositive_iff,
    (hbit 6#8 rfl).trans legalPositive_iff, (hbit 7#8 rfl).trans legalPositive_iff,
    (hbit 8#8 rfl).trans legalFraction_iff, fun _ hk => check_getLsbD_of_le c hk⟩

/-! ## The configuration while configured -/

/-- Only a CFGW with CONFIGURED 0 reaches the configuration registers. -/
theorem Effect.cfg_cases {o : Option Instr} (he : Effect s o t) :
    t.cfg = s.cfg ∨ s.configured = false ∧ ∃ sel v, o = some (.cfgw sel v) := by
  cases he with
  | configure sel v r hconf => exact .inr ⟨hconf, sel, v, rfl⟩
  | answer | refuse | init | srst | overflow | push | analyse | wrongLength => exact .inl rfl
  | badTime | suppress | learn | classify | detect => exact .inl (by simp)

/-- Settles O45: CFGW and INIT are locked, and the one effect that changes the configuration is a CFGW with
CONFIGURED 0. -/
theorem configurationIsConstant : Obligations.ConfigurationIsConstant := by
  refine ⟨fun s sel v hconf hsel => ⟨exec_cfgw_of_configured v hsel hconf, exec_init_of_configured hconf⟩,
    fun i s t h hconf => ?_, fun i s t h hne => ?_⟩
  · rcases (exec_effect h).cfg_cases with hcfg | ⟨hunconf, -⟩
    · exact hcfg
    · exact Bool.noConfusion (hconf.symm.trans hunconf)
  · rcases (exec_effect h).cfg_cases with hcfg | ⟨-, sel, v, hi⟩
    · exact absurd hcfg hne
    · exact ⟨sel, v, Option.some.inj hi⟩

end Sys2Proof.Machine
end

section
/-! PROOFS. The sample input (spec 41): PUSH by the case it is in (R120, R122), and a run of PUSH commands as one append
to the buffer (R123). -/

namespace Sys2Proof.Machine

variable {s : State} (x : F64)

/-! ## Running commands -/

theorem runCommands_cons_of_next {i : Instr} {t : State} (rest : List Instr) (h : exec i s = .next t) :
    runCommands (i :: rest) s = runCommands rest t := by
  simp only [runCommands, h]

/-! ## PUSH, by its case -/

theorem exec_push_of_unconfigured (hconf : s.configured = false) :
    exec (.push x) s = .next (s.raisedWith 0x82#8 0#64) := by
  simp only [exec, execPush, hconf]
  rfl

theorem exec_push_of_full (hconf : s.configured = true) (hfull : s.fill = s.chunkLen) :
    exec (.push x) s = .next ({ s with ovf := true }.raisedWith 0x85#8 0#64) := by
  simp only [exec, execPush, hconf, hfull]
  rfl

theorem exec_push_of_room (hconf : s.configured = true) (hroom : s.fill ≠ s.chunkLen) :
    exec (.push x) s = .next ({ s with inBuf := s.inBuf ++ [x] }.answered 0#64) := by
  simp only [exec, execPush, hconf, hroom]
  rfl

/-- Settles O15: PUSH's three cases, none of which looks at the sample. -/
theorem pushAppendsOrRefuses : Obligations.PushAppendsOrRefuses := fun _ x =>
  ⟨exec_push_of_unconfigured x, exec_push_of_full x, exec_push_of_room x⟩

/-! ## A run of PUSH commands -/

/-- The sample pushed takes one place, and the places there are stay as many. -/
theorem fits_after_push {n : Nat} (hfits : s.fill + (n + 1) ≤ s.chunkLen) :
    ({ s with inBuf := s.inBuf ++ [x] }.answered 0#64).fill + n ≤ s.chunkLen := by
  have hfill : ({ s with inBuf := s.inBuf ++ [x] }.answered 0#64).fill = s.fill + 1 := List.length_append
  omega

/-- Settles O16, by induction on the samples: while one is left the buffer has room for it, and the rest fits behind
it. -/
theorem pushesDeliverChunkInOrder : Obligations.PushesDeliverChunkInOrder := by
  intro xs
  induction xs with
  | nil => exact fun s _ _ => ⟨s, rfl, by rw [List.append_nil]⟩
  | cons x xs ih =>
    intro s hconf hfits
    have hroom : s.fill ≠ s.chunkLen := by
      rw [List.length_cons] at hfits
      omega
    obtain ⟨t, hrun, ht⟩ := ih ({ s with inBuf := s.inBuf ++ [x] }.answered 0#64) hconf (fits_after_push x hfits)
    refine ⟨t, (runCommands_cons_of_next _ (exec_push_of_room x hconf hroom)).trans hrun, ht.trans ?_⟩
    simp only [State.answered, List.append_assoc, List.singleton_append]

end Sys2Proof.Machine
end

section
/-! PROOFS. What the arithmetic makes of a zero (spec 00 R10, R12): zeros sum to +0.0, and a zero times or over a number
is a zero, so no quotient of a zero exceeds a positive threshold. -/

namespace Sys2Proof

variable {a b c : F64} (site : NanSite)

/-! ## Rounding to a zero -/

theorem F64.round_zero (neg : Bool) (den : Nat) : F64.round neg 0 den = F64.zero neg := by
  have hmag : F64.roundMag 0 den = 0 := by simp [F64.roundMag]
  rw [F64.round, hmag, Nat.min_zero, F64.zero]

/-- One unit or more does not round to a zero. -/
theorem F64.roundMag_ne_zero {num den : Nat} (hden : 0 < den) (hle : den ≤ num) : F64.roundMag num den ≠ 0 := by
  intro hmag
  have hdown : F64.roundDown num den = 0 := by
    rw [F64.roundMag_eq] at hmag
    split at hmag <;> omega
  obtain ⟨hexp, hquot⟩ : F64.roundExp num den = 0 ∧ F64.roundQuot num den = 0 := by
    rw [F64.roundDown] at hdown
    omega
  rw [F64.roundQuot, F64.roundStep, hexp, pow_zero, mul_one] at hquot
  exact (Nat.div_pos hle hden).ne' hquot

@[simp] theorem F64.round_isNaN (neg : Bool) (num den : Nat) : (F64.round neg num den).isNaN = false := by
  rw [← Bool.not_eq_true, F64.isNaN_iff, F64.round_magBits, not_lt]
  exact min_le_left _ _

@[simp] theorem F64.ofNat_sign (n : Nat) : (F64.ofNat n).sign = false := F64.round_sign ..

@[simp] theorem F64.ofNat_isNaN (n : Nat) : (F64.ofNat n).isNaN = false := F64.round_isNaN ..

theorem F64.ofNat_isZero_of_pos {n : Nat} (hn : 0 < n) : (F64.ofNat n).isZero = false := by
  have hmag : F64.roundMag (n <<< 1074) 1 ≠ 0 :=
    F64.roundMag_ne_zero Nat.one_pos (by rw [Nat.shiftLeft_eq]; exact Nat.mul_pos hn (by positivity))
  rw [← Bool.not_eq_true, F64.isZero_iff, F64.ofNat, F64.round_magBits, F64.infBits_eq]
  omega

/-! ## Operations on a zero -/

theorem F64.signedUnits_of_isZero (ha : a.isZero = true) : a.signedUnits = 0 := by
  rw [F64.signedUnits, F64.units_eq_zero.mpr ha]
  simp

theorem F64.key_of_isZero (ha : a.isZero = true) : a.key = 0 := by
  rw [F64.key, (F64.isZero_iff a).mp ha]
  simp

theorem F64.key_nonneg (ha : a.sign = false) : 0 ≤ a.key := by
  simp [F64.key, ha]

/-- +0.0 and a zero of either sign sum to +0.0. -/
theorem F64.add_zero_of_isZero (hb : b.isZero = true) : F64.add site (F64.zero false) b = F64.zero false := by
  have hfin := F64.isFinite_of_isZero (F64.zero_isZero false)
  rw [F64.add, F64.addOr_of_isFinite _ hfin (F64.isFinite_of_isZero hb), F64.signedUnits_of_isZero (F64.zero_isZero _),
    F64.signedUnits_of_isZero hb, add_zero, if_pos rfl, F64.zero_sign, Bool.false_and]

theorem F64.sum_of_isZero {l : List F64} (h : ∀ v ∈ l, v.isZero = true) : F64.sum l = F64.zero false := by
  induction l with
  | nil => rfl
  | cons v l ih =>
    obtain ⟨hv, hl⟩ := List.forall_mem_cons.mp h
    rw [F64.sum, List.foldl_cons, F64.add_zero_of_isZero .pure hv]
    exact ih hl

theorem F64.mul_of_isZero_right (ha : a.isFinite = true) (hb : b.isZero = true) :
    F64.mul site a b = F64.zero (a.sign != b.sign) := by
  rw [F64.mul_of_not_isInf site (F64.not_mulInvalid_of_isFinite ha (F64.isFinite_of_isZero hb))
    (F64.isInf_of_isFinite ha) (F64.isInf_of_isZero hb), F64.units_eq_zero.mpr hb, mul_zero, F64.round_zero]

theorem F64.div_of_isZero_left (ha : a.isZero = true) (hn : b.isNaN = false) (hz : b.isZero = false) :
    F64.div site a b = F64.zero (a.sign != b.sign) := by
  have hv : ¬ F64.DivInvalid a b := by
    simp [F64.DivInvalid, F64.isNaN_of_isZero ha, F64.isInf_of_isZero ha, hn, hz]
  cases hinf : b.isInf with
  | true => exact F64.div_of_isInf_right site hv hinf
  | false =>
    rw [F64.div_of_not_isInf site hv (F64.isInf_of_isZero ha) hinf hz, F64.units_eq_zero.mpr ha, Nat.zero_shiftLeft,
      F64.round_zero]

/-- A zero over anything is a zero or a NaN, so it exceeds no threshold of sign bit 0. -/
theorem F64.gt_div_of_isZero_left (ha : a.isZero = true) (hc : c.sign = false) :
    F64.gt (F64.div site a b) c = false := by
  by_cases hb : b.isNaN = true ∨ b.isZero = true
  case pos =>
    have hv : F64.DivInvalid a b := hb.elim (fun hn => .inr (.inl hn)) fun hz => .inr (.inr (.inr ⟨ha, hz⟩))
    have hnan : (F64.div site a b).isNaN = true := by rw [F64.div_of_invalid site hv, F64.nan_isNaN]
    obtain ⟨-, -, hgt, -, -⟩ := F64.compare_of_isNaN (b := c) (.inl hnan)
    exact hgt
  case neg =>
    obtain ⟨hn, hz⟩ := not_or.mp hb
    rw [F64.div_of_isZero_left site ha (eq_false_of_ne_true hn) (eq_false_of_ne_true hz), ← Bool.not_eq_true,
      F64.gt_iff, F64.key_of_isZero (F64.zero_isZero _)]
    exact fun ⟨_, _, hkey⟩ => hkey.not_ge (F64.key_nonneg hc)

/-! ## The order of values that may be a NaN -/

theorem F64.le_of_lt (h : F64.lt a b = true) : F64.le a b = true := by
  rw [F64.lt_iff] at h
  rw [F64.le_iff]
  exact ⟨h.1, h.2.1, h.2.2.le⟩

theorem F64.isNaN_or_le_of_not_gt (hb : b.isNaN = false) (h : F64.gt a b = false) :
    a.isNaN = true ∨ F64.le a b = true := by
  cases ha : a.isNaN with
  | true => exact .inl rfl
  | false =>
    rw [F64.gt, F64.lt_eq_not_le hb ha, Bool.not_eq_false'] at h
    exact .inr h

end Sys2Proof
end

section
/-! PROOFS. The Spectral Frontend (spec 42): the properties SPECMAG is held to (R132), the peak of a list of bins (R136,
R139), the result of a silent chunk, and ANLZ by its case (R140). -/

namespace Sys2Proof

variable {x : List F64}

/-! ## SPECMAG -/

theorem specmag_of_isZero (h : ∀ v ∈ x, v.isZero = true) (k : Nat) : specmag x k = F64.zero false :=
  if_pos (List.all_eq_true.mpr h)

/-- R132 item 2: the free value is replaced wherever it is no magnitude. -/
theorem isMagnitude_specmag (h : ∀ v ∈ x, v.isFinite = true) (k : Nat) : isMagnitude (specmag x k) = true := by
  have hzero : isMagnitude (F64.zero false) = true := by decide
  have hfin : x.all F64.isFinite = true := List.all_eq_true.mpr h
  unfold specmag
  dsimp only
  split_ifs with hsilent hbad
  · exact hzero
  · exact hzero
  · simpa [hfin] using hbad

/-- Settles O18: the zero a silent chunk gets, and what every other finite chunk's bin is held to. -/
theorem specmagMeetsItsProperties : Obligations.SpecmagMeetsItsProperties := by
  refine fun x k => ⟨fun hfin => ?_, fun hzero => (specmag_of_isZero hzero k).trans (zero_pattern false)⟩
  simpa [isMagnitude] using isMagnitude_specmag hfin k

/-! ## The Hann windows -/

theorem hannWeight_symmetric {N : Nat} (hN : N ≠ 1) (n : Nat) :
    hannWeight .symmetric N n = 0.5 - 0.5 * Real.cos (2 * Real.pi * n / ((N : ℝ) - 1)) := if_neg hN

theorem hannWeight_periodic {N : Nat} (hN : N ≠ 1) (n : Nat) :
    hannWeight .periodic N n = 0.5 - 0.5 * Real.cos (2 * Real.pi * n / N) := if_neg hN

/-- The last angle of the periodic window is short of a full turn, so its cosine is below 1. -/
theorem cos_last_periodic_lt_one {N : Nat} (hN : 2 ≤ N) : Real.cos (2 * Real.pi * (N - 1 : Nat) / N) < 1 := by
  have hturn : 0 < 2 * Real.pi := Real.two_pi_pos
  have hpos : (0 : ℝ) < N := by positivity
  have hlast : (0 : ℝ) < (N - 1 : Nat) := Nat.cast_pos.mpr (by omega)
  have hshort : ((N - 1 : Nat) : ℝ) < N := Nat.cast_lt.mpr (by omega)
  have hangle : 0 < 2 * Real.pi * (N - 1 : Nat) / N := by positivity
  have hlt : 2 * Real.pi * (N - 1 : Nat) / N < 2 * Real.pi := by
    rw [div_lt_iff₀ hpos]
    exact mul_lt_mul_of_pos_left hshort hturn
  refine (Real.cos_le_one _).lt_of_ne fun hone => hangle.ne' ?_
  exact (Real.cos_eq_one_iff_of_lt_of_lt (by linarith) hlt).mp hone

/-- Settles O22: the angle is 0 at the first sample, and at the last one a full turn or short of it. -/
theorem hannWindowEnds : Obligations.HannWindowEnds := by
  intro N hN
  have hN1 : N ≠ 1 := by omega
  refine ⟨?symmetricFirst, ?symmetricLast, ?periodicFirst, ?periodicLast⟩
  case symmetricFirst => rw [hannWeight_symmetric hN1]; simp
  case symmetricLast =>
    have hcast : ((N - 1 : Nat) : ℝ) = N - 1 := by rw [Nat.cast_sub (by omega), Nat.cast_one]
    have hne : (N : ℝ) - 1 ≠ 0 := sub_ne_zero.mpr (Nat.cast_ne_one.mpr hN1)
    rw [hannWeight_symmetric hN1, hcast, mul_div_cancel_right₀ _ hne, Real.cos_two_pi]
    norm_num
  case periodicFirst => rw [hannWeight_periodic hN1]; simp
  case periodicLast =>
    rw [hannWeight_periodic hN1]
    linarith [cos_last_periodic_lt_one hN]

namespace Machine

/-! ## The peak -/

/-- `p` stands between `pre` and `post` as R136 and R139 ask of the peak of bins of which `b` is the first. -/
structure PeakBetween (b p : Bin) (pre post : List Bin) : Prop where
  first : b.mag.isNaN = true → pre = []
  isNaN : b.mag.isNaN = false → p.mag.isNaN = false
  before : b.mag.isNaN = false → ∀ q ∈ pre, q.mag.isNaN = true ∨ F64.lt q.mag p.mag = true
  after : ∀ q ∈ post, F64.gt q.mag p.mag = false

section
variable {b p k : Bin} {l pre post : List Bin}

theorem peakFrom_append_singleton (b k : Bin) (l : List Bin) :
    peakFrom b (l ++ [k]) = if F64.gt k.mag (peakFrom b l).mag then k else peakFrom b l := by
  rw [peakFrom, List.foldl_append]
  rfl

/-- No bin on either side exceeds a peak that is no NaN. -/
theorem PeakBetween.le_peak (h : PeakBetween b p pre post) (hb : b.mag.isNaN = false) {q : Bin}
    (hq : q ∈ pre ++ p :: post) : q.mag.isNaN = true ∨ F64.le q.mag p.mag = true := by
  have hp := h.isNaN hb
  rcases List.mem_append.mp hq with hpre | hrest
  · exact (h.before hb q hpre).imp_right F64.le_of_lt
  · rcases List.mem_cons.mp hrest with rfl | hpost
    · exact .inr (F64.le_refl hp)
    · exact F64.isNaN_or_le_of_not_gt hp (h.after q hpost)

/-- A later bin with no greater magnitude leaves the peak where it is. -/
theorem PeakBetween.keep (h : PeakBetween b p pre post) (hk : F64.gt k.mag p.mag = false) :
    PeakBetween b p pre (post ++ [k]) where
  first := h.first
  isNaN := h.isNaN
  before := h.before
  after q hq := (List.mem_append.mp hq).elim (h.after q) fun hlast => List.mem_singleton.mp hlast ▸ hk

/-- A later bin with a greater magnitude is the peak of all bins up to it. -/
theorem PeakBetween.replace (h : PeakBetween b p pre post) (hfirst : b :: l = pre ++ p :: post)
    (hk : F64.gt k.mag p.mag = true) : PeakBetween b k (b :: l) [] := by
  obtain ⟨hp, hkn, -⟩ := (F64.gt_iff _ _).mp hk
  have hb : b.mag.isNaN = false := by
    rw [← Bool.not_eq_true]
    intro hbn
    rw [h.first hbn] at hfirst
    obtain ⟨rfl, -⟩ := List.cons.inj hfirst
    exact Bool.noConfusion (hbn.symm.trans hp)
  exact {
    first := fun hbn => Bool.noConfusion (hbn.symm.trans hb)
    isNaN := fun _ => hkn
    before := fun _ q hq => (h.le_peak hb (hfirst ▸ hq)).imp_right fun hle => F64.lt_of_le_of_lt hle hk
    after := nofun }

end

theorem exists_peakBetween (b : Bin) (l : List Bin) :
    ∃ pre post, b :: l = pre ++ peakFrom b l :: post ∧ PeakBetween b (peakFrom b l) pre post := by
  induction l using List.reverseRecOn with
  | nil => exact ⟨[], [], rfl, fun _ => rfl, id, nofun, nofun⟩
  | append_singleton l k ih =>
    obtain ⟨pre, post, hsplit, hpeak⟩ := ih
    rw [peakFrom_append_singleton]
    split
    case isTrue hk => exact ⟨b :: l, [], rfl, hpeak.replace hsplit hk⟩
    case isFalse hk =>
      refine ⟨pre, post ++ [k], ?_, hpeak.keep (eq_false_of_ne_true hk)⟩
      rw [← List.cons_append, hsplit, List.append_assoc, List.cons_append]

theorem peakFrom_mem (b : Bin) (l : List Bin) : peakFrom b l ∈ b :: l := by
  obtain ⟨pre, post, hsplit, -⟩ := exists_peakBetween b l
  rw [hsplit]
  exact List.mem_append_cons_self

theorem frontend_of_target {c : CfgRegs} {x : List F64} {b : Bin} {l : List Bin}
    (h : targetBins c (chunkBins c x) = b :: l) :
    frontend c x =
      ⟨(peakFrom b l).mag, (peakFrom b l).freq, (frontend c x).background, (frontend c x).meanAll, false⟩ := by
  simp only [frontend, h]

/-- Settles O19: the frontend takes the peak of the target bins, and the peak moves only to a greater magnitude. -/
theorem peakIsLowestIndexMaximum : Obligations.PeakIsLowestIndexMaximum := by
  refine ⟨fun c x => ⟨fun hnone => ?_, fun b l hsome => ?_⟩, fun b l => ?_⟩
  · rw [frontend_sentinel hnone]
    exact ⟨zero_pattern false, zero_pattern false, rfl⟩
  · rw [frontend_of_target hsome]
    exact ⟨rfl, rfl, rfl⟩
  · obtain ⟨pre, post, hsplit, hpeak⟩ := exists_peakBetween b l
    exact ⟨pre, post, hsplit, hpeak.first, fun hb => ⟨hpeak.isNaN hb, hpeak.before hb⟩, hpeak.after⟩

/-- The peak of the result is the sentinel, or one of the target bins (R136, R142). -/
theorem frontend_peak_cases (c : CfgRegs) (x : List F64) :
    ((frontend c x).peakMag = F64.zero false ∧ (frontend c x).peakFreq = F64.zero false) ∨
    ∃ b ∈ targetBins c (chunkBins c x), (frontend c x).peakMag = b.mag ∧ (frontend c x).peakFreq = b.freq := by
  cases htarget : targetBins c (chunkBins c x) with
  | nil => rw [frontend_sentinel htarget]; exact .inl ⟨rfl, rfl⟩
  | cons b l => rw [frontend_of_target htarget]; exact .inr ⟨_, peakFrom_mem b l, rfl, rfl⟩

/-! ## A silent chunk -/

theorem mag_of_mem_chunkBins {c : CfgRegs} {x : List F64} (h : ∀ v ∈ x, v.isZero = true) {b : Bin}
    (hb : b ∈ chunkBins c x) : b.mag = F64.zero false := by
  obtain ⟨k, -, rfl⟩ := List.mem_map.mp hb
  exact specmag_of_isZero h k

theorem meanMag_of_silent {l : List Bin} (hne : l ≠ []) (h : ∀ b ∈ l, b.mag = F64.zero false) :
    meanMag l = F64.zero false := by
  have hsum : F64.sum (l.map Bin.mag) = F64.zero false :=
    F64.sum_of_isZero (List.forall_mem_map.mpr fun b hb => by rw [h b hb, F64.zero_isZero])
  rw [meanMag, hsum, F64.div_of_isZero_left .pure (F64.zero_isZero _) (F64.ofNat_isNaN _)
    (F64.ofNat_isZero_of_pos (List.length_pos_iff.mpr hne)), F64.zero_sign, F64.ofNat_sign]
  rfl

/-- Settles O21: every bin is +0.0, so each mean is one of zeros, a tenth of it is a zero, and the peak is a bin or the
sentinel. -/
theorem silentChunkHasZeroResult : Obligations.SilentChunkHasZeroResult := by
  intro c x hx
  rw [← show F64.zero false = 0#64 from zero_pattern false]
  have hbins : ∀ b ∈ chunkBins c x, b.mag = F64.zero false := fun b hb => mag_of_mem_chunkBins hx hb
  have hmean : meanMag (chunkBins c x) = F64.zero false := meanMag_of_silent (chunkBins_ne_nil c x) hbins
  refine ⟨?peak, ?background, (frontend_meanAll c x).trans hmean⟩
  case peak =>
    rcases frontend_peak_cases c x with ⟨hmag, -⟩ | ⟨b, hb, hmag, -⟩ <;> rw [hmag]
    exact hbins b (List.mem_of_mem_filter hb)
  case background =>
    rcases frontend_background_cases c x with ⟨-, hbg⟩ | ⟨hne, hbg⟩ <;> rw [hbg]
    · rw [hmean, tenth_pattern, F64.mul_of_isZero_right .pure (by decide) (F64.zero_isZero _), F64.zero_sign]
      rfl
    · exact meanMag_of_silent hne fun b hb => hbins b (List.mem_of_mem_filter hb)

/-! ## ANLZ, by its case -/

section
variable {s t : State}

theorem wrongLength_iff : s.wrongLength = true ↔ s.fill ≠ s.chunkLen ∨ s.ovf = true := by
  simp [State.wrongLength]

theorem exec_anlz_of_unconfigured (hconf : s.configured = false) :
    exec .anlz s = .next (s.raisedWith 0x82#8 0#64) := by
  simp only [exec, execAnlz, hconf]
  rfl

theorem exec_anlz_of_wrongLength (hconf : s.configured = true) (hlen : s.wrongLength = true) :
    exec .anlz s = .next ({ s with inBuf := [], ovf := false }.raisedWith 0x86#8 0#64) := by
  rw [exec, execAnlz, if_neg (by simp [hconf]), if_pos hlen]
  rfl

theorem exec_anlz_of_rightLength (hconf : s.configured = true) (hlen : s.wrongLength = false) :
    exec .anlz s = .next ({ s with
      inBuf := [], ovf := false, fe := frontend s.cfg s.inBuf, feValid := true }.answered 0#64) := by
  rw [exec, execAnlz, if_neg (by simp [hconf]), if_neg (by simp [hlen])]
  rfl

/-- Settles O17: the three cases of ANLZ, told apart by CONFIGURED and the chunk's length. -/
theorem anlzRunsFrontend : Obligations.AnlzRunsFrontend := fun _ =>
  ⟨exec_anlz_of_unconfigured, fun hconf hlen => exec_anlz_of_wrongLength hconf (wrongLength_iff.mpr hlen),
    fun hconf hfill hovf => exec_anlz_of_rightLength hconf <| eq_false_of_ne_true fun hlen =>
      (wrongLength_iff.mp hlen).elim (· hfill) fun hover => Bool.noConfusion (hover.symm.trans hovf)⟩

end

end Machine

end Sys2Proof
end

section
/-! PROOFS. Strong windows (spec 43 R173, 44 R198 item 6): the strong test passes only a peak that is a target bin, and
windows are appended only by a classified chunk. -/

namespace Sys2Proof.Machine

variable {s t : State}

/-- R142, R173: the sentinel is never strong, its peak of +0.0 over the background not exceeding 8; any other peak is a
target bin, and its ratio has passed the test against MIN_RATIO. -/
theorem classify_strong_sound {c : CfgRegs} {site : NanSite} {level x : F64} {buf : List F64}
    (h : (classify c site level x (frontend c buf)).strong = true) :
    c.inBand (classify c site level x (frontend c buf)).freq = true ∧
    F64.gt (classify c site level x (frontend c buf)).ratio c.minRatio = true := by
  simp only [classify, strongTest, Bool.and_eq_true] at h ⊢
  obtain ⟨⟨hratio, hbackground⟩, -⟩ := h
  refine ⟨?_, hratio⟩
  rcases frontend_peak_cases c buf with ⟨hmag, -⟩ | ⟨b, hb, -, hfreq⟩
  · rw [hmag, F64.gt_div_of_isZero_left site (F64.zero_isZero _) (F64.ofNat_sign 8)] at hbackground
    exact Bool.noConfusion hbackground
  · rw [hfreq]
    exact (List.mem_filter.mp hb).2

@[simp] theorem State.classifiedBy_windows (s : State) (st : Stamp) :
    (s.classifiedBy st).windows = s.windowsAfter (s.stampTime st) := by
  simp [State.classifiedBy, State.windowsAfter]

theorem State.Inv.windows_of_unconfigured (h : s.Inv) (hconf : s.configured = false) : s.windows = [] :=
  (congrArg State.windows (h.cleared hconf)).symm

theorem State.StrongSound.of_kept (hs : s.StrongSound) (hwindows : t.windows = s.windows) (hcfg : t.cfg = s.cfg) :
    t.StrongSound := by
  rw [State.StrongSound, hwindows, hcfg]
  exact hs

theorem strongSound_of_no_windows (h : s.windows = []) : s.StrongSound := by
  rw [State.StrongSound, h]
  exact nofun

theorem State.StrongSound.of_windowsAfter (hs : s.StrongSound) {x : F64} (hwindows : t.windows = s.windowsAfter x)
    (hcfg : t.cfg = s.cfg) : t.StrongSound := by
  rw [State.StrongSound, hwindows, hcfg]
  intro w hw hstrong
  rcases mem_appendWindow hw with hold | rfl
  · exact hs w hold hstrong
  · exact classify_strong_sound hstrong

theorem Effect.strongSound {o : Option Instr} (he : Effect s o t) (h : s.Inv) (hs : s.StrongSound) :
    t.StrongSound := by
  cases he with
  | answer | refuse | overflow | push | analyse | wrongLength => exact hs.of_kept rfl rfl
  | badTime | suppress | learn => exact hs.of_kept (by simp) (by simp)
  | configure _ _ _ hconf => exact strongSound_of_no_windows (h.windows_of_unconfigured hconf)
  | init | srst => exact strongSound_of_no_windows rfl
  | classify st | detect st => exact hs.of_windowsAfter (x := s.stampTime st) (by simp) (by simp)

/-- Settles O53: every effect keeps the property, and the reset input leaves no window. -/
theorem strongWindowsStayInBand : Obligations.StrongWindowsStayInBand := fun _ _ h hs =>
  step_takes (P := fun s => s.Inv ∧ s.StrongSound)
    (fun _ rest ⟨h, hs⟩ => ⟨h.with_host rest, hs.of_kept rfl rfl⟩) (fun _ hs => hs.2)
    (fun _ => strongSound_of_no_windows rfl) (fun _ _ _ ⟨h, hs⟩ he => he.strongSound h hs) ⟨h, hs⟩

end Sys2Proof.Machine
end

section
/-! PROOFS. The running mean (spec 43 R170): a value that binary64 holds rounds to itself, so a difference from +0.0, a
quotient by 1 and a sum with +0.0 are exact, and a constant background stays what it is. -/

namespace Sys2Proof

variable {a b c : F64} (site : NanSite)

/-! ## Rounding a value that binary64 holds -/

/-- The number of units that some magnitude bits stand for is nearest to those bits alone. -/
theorem F64.roundMag_of_unitsOf {num den m : Nat} (hden : 0 < den) (hnum : num = F64.unitsOf m * den) :
    F64.roundMag num den = m := by
  have hunits : (num : ℝ) / den = F64.unitsOf m := by
    rw [hnum, Nat.cast_mul, mul_div_cancel_right₀ _ (Nat.cast_ne_zero.mpr hden.ne')]
  obtain ⟨hnear, -⟩ := F64.nearest_roundMag hden (F64.samePlace_div num hden _) m
  rw [hunits, sub_self, abs_zero] at hnear
  exact F64.unitsOf_strictMono.injective (Nat.cast_injective (sub_eq_zero.mp (abs_nonpos_iff.mp hnear)))

theorem F64.round_of_units {num den : Nat} (ha : a.isFinite = true) (hden : 0 < den) (hnum : num = a.units * den) :
    F64.round a.sign num den = a := by
  rw [F64.units_eq] at hnum
  rw [F64.isFinite_iff] at ha
  refine F64.ext_sign_magBits (F64.round_sign ..) ?_
  rw [F64.round_magBits, F64.roundMag_of_unitsOf hden hnum, min_eq_right ha.le]

/-! ## The signed units of a value -/

theorem F64.signedUnits_eq_zero : a.signedUnits = 0 ↔ a.isZero = true := by
  rw [← F64.units_eq_zero, F64.signedUnits]
  split <;> omega

theorem F64.natAbs_signedUnits (a : F64) : a.signedUnits.natAbs = a.units := by
  rw [F64.signedUnits]
  split <;> omega

theorem F64.signedUnits_neg_iff (hz : a.isZero = false) : a.signedUnits < 0 ↔ a.sign = true := by
  have hunits : a.units ≠ 0 := F64.units_eq_zero.not.mpr (Bool.eq_false_iff.mp hz)
  cases hs : a.sign with
  | false => simp [F64.signedUnits, hs]
  | true => simpa [F64.signedUnits, hs] using Nat.pos_of_ne_zero hunits

/-- A sum that a finite value holds is that value; the sign of a zero sum is the operands'. -/
theorem F64.addOr_of_signedUnits (nan : F64) (ha : a.isFinite = true) (hb : b.isFinite = true)
    (hc : c.isFinite = true) (hsum : a.signedUnits + b.signedUnits = c.signedUnits)
    (hzero : c.isZero = true → c = F64.zero (a.sign && b.sign)) : F64.addOr nan a b = c := by
  rw [F64.addOr_of_isFinite nan ha hb, hsum]
  cases hz : c.isZero with
  | true => rw [if_pos (F64.signedUnits_eq_zero.mpr hz), hzero hz]
  | false =>
    have hsign : decide (c.signedUnits < 0) = c.sign := by simp [F64.signedUnits_neg_iff hz]
    rw [if_neg (F64.signedUnits_eq_zero.not.mpr (Bool.eq_false_iff.mp hz)), hsign, F64.natAbs_signedUnits,
      F64.round_of_units hc Nat.one_pos (Nat.mul_one _).symm]

/-! ## Exact operations -/

theorem F64.eq_zero_of_isZero (h : a.isZero = true) : a = F64.zero a.sign :=
  F64.ext_sign_magBits (F64.zero_sign _).symm (by rw [(F64.isZero_iff a).mp h, F64.zero_magBits])

/-- The zero that is not −0.0 is +0.0. -/
theorem F64.eq_posZero_of_isZero (hneg : a ≠ 0x8000000000000000#64) (h : a.isZero = true) : a = F64.zero false := by
  have ha := F64.eq_zero_of_isZero h
  cases hs : a.sign with
  | false => rwa [hs] at ha
  | true => exact absurd (ha.trans (hs ▸ zero_pattern true)) hneg

section
variable (hb : b.isFinite = true)
include hb

theorem F64.div_one : F64.div site b 0x3FF0000000000000#64 = b := by
  have hunits : F64.units 0x3FF0000000000000#64 = 1 <<< 1074 := by decide +kernel
  rw [F64.div_of_not_isInf site (F64.not_divInvalid_of_isFinite hb (by decide) (.inr (by decide)))
    (F64.isInf_of_isFinite hb) (by decide) (by decide), hunits, Nat.shiftLeft_eq, Nat.one_shiftLeft,
    show (b.sign != F64.sign 0x3FF0000000000000#64) = b.sign from Bool.xor_false _]
  exact F64.round_of_units hb (by positivity) rfl

variable (hneg : b ≠ 0x8000000000000000#64)
include hneg

theorem F64.add_posZero : F64.add site b (F64.zero false) = b :=
  F64.addOr_of_signedUnits _ hb (F64.isFinite_of_isZero (F64.zero_isZero _)) hb
    (by rw [F64.signedUnits_of_isZero (F64.zero_isZero _), add_zero])
    (fun hz => by rw [F64.zero_sign, Bool.and_false, ← F64.eq_posZero_of_isZero hneg hz])

theorem F64.posZero_add : F64.add site (F64.zero false) b = b :=
  F64.addOr_of_signedUnits _ (F64.isFinite_of_isZero (F64.zero_isZero _)) hb hb
    (by rw [F64.signedUnits_of_isZero (F64.zero_isZero _), zero_add])
    (fun hz => by rw [F64.zero_sign, Bool.false_and, ← F64.eq_posZero_of_isZero hneg hz])

theorem F64.sub_posZero : F64.sub site b (F64.zero false) = b :=
  have hfin := F64.isFinite_of_isZero (F64.zero_isZero false)
  F64.addOr_of_signedUnits _ hb (by rwa [F64.neg_isFinite]) hb
    (by rw [F64.neg_signedUnits, F64.signedUnits_of_isZero (F64.zero_isZero _), neg_zero, add_zero])
    (fun hz => by rw [F64.eq_posZero_of_isZero hneg hz, F64.zero_sign, Bool.false_and])

end

theorem F64.posZero_div_ofNat {n : Nat} (hn : 0 < n) :
    F64.div site (F64.zero false) (F64.ofNat n) = F64.zero false := by
  rw [F64.div_of_isZero_left site (F64.zero_isZero _) (F64.ofNat_isNaN n) (F64.ofNat_isZero_of_pos hn), F64.zero_sign,
    F64.ofNat_sign, bne_self_eq_false]

end Sys2Proof

namespace Sys2Proof.Machine

/-! ## The running mean -/

/-- Settles O31: every operation of the two updates is exact. -/
theorem runningMeanIsExact : Obligations.RunningMeanIsExact := by
  refine fun site b n hb hneg => ⟨?_, fun hn => ?_⟩
  · rw [← show F64.zero false = 0#64 from zero_pattern false]
    calc runningMean site (F64.zero false) b 1#64
      _ = F64.add site (F64.zero false) (F64.div site (F64.sub site b (F64.zero false)) (F64.ofNat 1)) := rfl
      _ = F64.add site (F64.zero false) (F64.div site b 0x3FF0000000000000#64) := by
        rw [F64.sub_posZero site hb hneg, one_pattern]
      _ = b := by rw [F64.div_one site hb, F64.posZero_add site hb hneg]
  · have hcount : 0 < n.toNat := by bv_omega
    calc runningMean site b b n
      _ = F64.add site b (F64.div site (F64.sub site b b) (F64.ofNat n.toNat)) := rfl
      _ = F64.add site b (F64.div site (F64.zero false) (F64.ofNat n.toNat)) := by
        rw [F64.sub_self_of_isFinite site hb, show F64.zero false = 0#64 from zero_pattern false]
      _ = b := by rw [F64.posZero_div_ofNat site hcount, F64.add_posZero site hb hneg]

end Sys2Proof.Machine
end

section
/-! PROOFS. PROC (spec 43): what it rejects and the four paths it takes, each by the tests that choose it, and the
window of a classified chunk. -/

namespace Sys2Proof.Machine

variable {s : State} {st : Stamp} {x : F64}

/-! ## The tests of PROC -/

theorem timeOk_eq_false_iff :
    s.timeOk x = false ↔ x.isFinite = false ∨ (s.started = true ∧ F64.ge x s.lastTime = false) := by
  simp [State.timeOk, Classical.or_iff_not_imp_left]

/-- R164: an accepted PROC has passed the test of its time. -/
theorem State.Accepts.timeOk (h : s.Accepts x) : s.timeOk x = true :=
  timeOk_iff.mpr ⟨h.finite, h.ordered⟩

theorem wrongLength_eq_false_iff : s.wrongLength = false ↔ s.fill = s.chunkLen ∧ s.ovf = false := by
  simp [State.wrongLength]

theorem State.Accepts.rightLength (h : s.Accepts x) : s.wrongLength = false :=
  wrongLength_eq_false_iff.mpr ⟨h.fill, h.ovf⟩

theorem inForce_iff : s.InForce x ↔ s.latchInForce x = true := Bool.and_eq_true_iff.symm

theorem learns_iff : s.Learns x ↔ (s.unlatched x).learningAt x = true := Bool.and_eq_true_iff.symm

/-! ## PROC from its timestamp on, by its case -/

theorem procAt_of_badTime (htime : s.timeOk x = false) : s.procAt x = s.emptyBuffer.raise .errTimestamp 0#64 := by
  simp [State.procAt, htime]

theorem procAt_of_inForce (htime : s.timeOk x = true) (hlatch : s.latchInForce x = true) :
    s.procAt x = (s.accept x).finishPath .ok 1#8 := by
  have haccept : (s.accept x).latchInForce x = true := hlatch
  simp [State.procAt, htime, haccept]

theorem procAt_of_not_inForce (htime : s.timeOk x = true) (hlatch : s.latchInForce x = false) :
    s.procAt x = (s.unlatched x).processed x (frontend s.cfg s.inBuf) := by
  have haccept : (s.accept x).latchInForce x = false := hlatch
  simp [State.procAt, htime, haccept]

theorem processed_of_learningAt (r : FrontendResult) (hlearn : s.learningAt x = true) :
    s.processed x r = (s.learnFrom r.background).finishPath .ok 2#8 :=
  if_pos hlearn

theorem processed_of_not_learningAt (r : FrontendResult) (hlearn : s.learningAt x = false) :
    s.processed x r = (s.classified x r).analysed x :=
  if_neg (Bool.eq_false_iff.mp hlearn)

theorem analysed_of_none (h : sustained s.cfg s.windows x = none) : s.analysed x = s.finishPath .ok 3#8 := by
  simp only [State.analysed, h]

theorem analysed_of_some {d : Detection} (h : sustained s.cfg s.windows x = some d) :
    s.analysed x = (s.detect x d).finishPath .event 4#8 := by
  simp only [State.analysed, h]

/-! ## PROC, by its case -/

theorem exec_proc_of_unconfigured (st : Stamp) (hconf : s.configured = false) :
    exec (.proc st) s = .next (s.raise .errNotConfigured 0#64) :=
  if_pos (by simp [hconf])

theorem exec_proc_of_wrongLength (st : Stamp) (hconf : s.configured = true) (hlen : s.wrongLength = true) :
    exec (.proc st) s = .next (s.emptyBuffer.raise .errWrongLength 0#64) :=
  (if_neg (by simp [hconf])).trans (if_pos hlen)

theorem exec_proc_of_rightLength (st : Stamp) (hconf : s.configured = true) (hlen : s.wrongLength = false) :
    exec (.proc st) s = .next ((s.afterStamp st).procAt (s.stampTime st)) :=
  (if_neg (by simp [hconf])).trans (if_neg (by simp [hlen]))

/-- R167: path 1. -/
theorem exec_proc_of_inForce (h : s.Accepts (s.stampTime st)) (hlatch : s.InForce (s.stampTime st)) :
    exec (.proc st) s = .next (((s.afterStamp st).accept (s.stampTime st)).finishPath .ok 1#8) := by
  rw [exec_proc_of_rightLength st h.configured h.rightLength,
    procAt_of_inForce (by simpa using h.timeOk) (by simpa using inForce_iff.mp hlatch)]

/-- R168, R169: past the latch, the frontend result goes to learning or to classification. -/
theorem exec_proc_of_not_inForce (h : s.Accepts (s.stampTime st)) (hlatch : ¬ s.InForce (s.stampTime st)) :
    exec (.proc st) s = .next (((s.afterStamp st).unlatched (s.stampTime st)).processed (s.stampTime st)
      (frontend s.cfg s.inBuf)) := by
  rw [exec_proc_of_rightLength st h.configured h.rightLength,
    procAt_of_not_inForce (by simpa using h.timeOk) (by simpa [inForce_iff] using hlatch), State.afterStamp_cfg,
    State.afterStamp_inBuf]

/-- R170: path 2. -/
theorem exec_proc_of_learns (h : s.Accepts (s.stampTime st)) (hlatch : ¬ s.InForce (s.stampTime st))
    (hlearn : s.Learns (s.stampTime st)) :
    exec (.proc st) s = .next ((((s.afterStamp st).unlatched (s.stampTime st)).learnFrom
      (frontend s.cfg s.inBuf).background).finishPath .ok 2#8) := by
  rw [exec_proc_of_not_inForce h hlatch, processed_of_learningAt _ (by simpa using learns_iff.mp hlearn)]

/-- R172 to R176: the sustained analysis follows the classification. -/
theorem exec_proc_of_not_learns (h : s.Accepts (s.stampTime st)) (hlatch : ¬ s.InForce (s.stampTime st))
    (hlearn : ¬ s.Learns (s.stampTime st)) :
    exec (.proc st) s = .next ((s.classifiedBy st).analysed (s.stampTime st)) := by
  rw [exec_proc_of_not_inForce h hlatch, processed_of_not_learningAt _ (by simpa [learns_iff] using hlearn),
    State.classifiedBy]

/-- Path 3. -/
theorem exec_proc_of_no_detection (h : s.Accepts (s.stampTime st)) (hlatch : ¬ s.InForce (s.stampTime st))
    (hlearn : ¬ s.Learns (s.stampTime st))
    (hnone : sustained s.cfg (s.windowsAfter (s.stampTime st)) (s.stampTime st) = none) :
    exec (.proc st) s = .next ((s.classifiedBy st).finishPath .ok 3#8) := by
  rw [exec_proc_of_not_learns h hlatch hlearn, analysed_of_none (by simpa using hnone)]

/-- R204: path 4. -/
theorem exec_proc_of_detection {d : Detection} (h : s.Accepts (s.stampTime st))
    (hlatch : ¬ s.InForce (s.stampTime st)) (hlearn : ¬ s.Learns (s.stampTime st))
    (hsome : sustained s.cfg (s.windowsAfter (s.stampTime st)) (s.stampTime st) = some d) :
    exec (.proc st) s = .next (((s.classifiedBy st).detect (s.stampTime st) d).finishPath .event 4#8) := by
  rw [exec_proc_of_not_learns h hlatch hlearn, analysed_of_some (by simpa using hsome)]

/-! ## What each case leaves -/

/-- Settles O23: the three rejections, the tests in the order of R242. -/
theorem procRejectsInOrder : Obligations.ProcRejectsInOrder := by
  refine fun s st => ⟨exec_proc_of_unconfigured st, fun hconf hlen => ?_, fun hconf hfill hovf htime => ?_⟩
  · exact exec_proc_of_wrongLength st hconf (wrongLength_iff.mpr hlen)
  · rw [exec_proc_of_rightLength st hconf (wrongLength_eq_false_iff.mpr ⟨hfill, hovf⟩),
      procAt_of_badTime (by simpa using timeOk_eq_false_iff.mpr htime)]
    rfl

/-- Settles O24: path 1 only accepts the chunk. -/
theorem procSuppressedByLatch : Obligations.ProcSuppressedByLatch := by
  intro s st h hlatch
  rw [exec_proc_of_inForce h hlatch]
  cases st <;> rfl

/-- Settles O25: path 2, with the running mean written out. -/
theorem procLearnsAmbient : Obligations.ProcLearnsAmbient := by
  intro s st h hlatch hlearn
  rw [exec_proc_of_learns h hlatch hlearn]
  cases st <;> rfl

/-- Settles O26: path 3. -/
theorem procClassifiesWithoutDetection : Obligations.ProcClassifiesWithoutDetection := by
  intro s st h hlatch hlearn hnone
  rw [exec_proc_of_no_detection h hlatch hlearn hnone]
  cases st <;> rfl

theorem two_pattern : F64.ofNat 2 = 0x4000000000000000#64 := by decide +kernel

theorem eventOf_eq (c : CfgRegs) (d : Detection) : eventOf c x d =
    ⟨x, d.avgFreq, d.avgRatio, F64.min 0x3FF0000000000000#64 (F64.mul .pure d.occ 0x4000000000000000#64), 1#64, d.occ,
      c.sustainTime⟩ := by
  rw [eventOf, one_pattern, two_pattern]

/-- Settles O27: path 4, with the event of R205 written out. -/
theorem procDetects : Obligations.ProcDetects := by
  intro s st d h hlatch hlearn hsome
  rw [exec_proc_of_detection h hlatch hlearn hsome, ← eventOf_eq]
  cases st <;> rfl

/-- Settles O28: past the length test, PROC WALL and PROC t reach the timestamp test with the same time and state. -/
theorem procWallUsesTheDraw : Obligations.ProcWallUsesTheDraw := by
  intro s hconf hfill hovf
  have hlen : s.wrongLength = false := wrongLength_eq_false_iff.mpr ⟨hfill, hovf⟩
  have hgiven : exec (.proc (.given (Config.wallclk s.wallDraws))) (s.afterStamp .wall) =
      .next ((s.afterStamp .wall).procAt (Config.wallclk s.wallDraws)) :=
    exec_proc_of_rightLength _ hconf hlen
  exact (exec_proc_of_rightLength .wall hconf hlen).trans hgiven.symm

/-! ## The window of a classified chunk -/

theorem eight_pattern : F64.ofNat 8 = 0x4020000000000000#64 := by decide +kernel

theorem twelve_pattern : F64.ofNat 12 = 0x4028000000000000#64 := by decide +kernel

/-- Settles O29: the definition of the record, each literal as its pattern. -/
theorem classificationRecordsTheChunk : Obligations.ClassificationRecordsTheChunk := by
  intro c site level x r
  rw [classify, strongTest, signalToBackground, eps, eps_pattern, eight_pattern, twelve_pattern]

end Sys2Proof.Machine
end

section
/-! PROOFS. The mode (spec 10 R24, 43 R178) an accepted PROC, INIT and SRST leave, and the latch (R179, R206, R207):
while it is in force at every PROC, no command emits an event. -/

namespace Sys2Proof.Machine

variable {s t u : State} {st : Stamp} {x : F64}

/-! ## The mode, by the flags it is derived from -/

theorem mode_eq_unconfigured_iff : s.mode = .unconfigured ↔ s.configured = false := by
  rw [State.mode]
  split_ifs <;> simp_all

theorem mode_of_learn (hconf : s.configured = true) (hlearn : s.learn = true) : s.mode = .learning := by
  simp [State.mode, hconf, hlearn]

theorem mode_of_latch (hconf : s.configured = true) (hlearn : s.learn = false) (hlatch : s.latch = true) :
    s.mode = .latched := by
  simp [State.mode, hconf, hlearn, hlatch]

theorem mode_of_unlatched (hconf : s.configured = true) (hlearn : s.learn = false) (hlatch : s.latch = false) :
    s.mode = .active := by
  simp [State.mode, hconf, hlearn, hlatch]

theorem learn_of_mode (h : s.mode = .learning) : s.learn = true := by
  rw [State.mode] at h
  split_ifs at h
  assumption

theorem State.Inv.learn_of_latch (h : s.Inv) (hlatch : s.latch = true) : s.learn = false :=
  eq_false_of_ne_true fun hlearn => Bool.noConfusion (hlatch.symm.trans (h.learning hlearn).1)

/-- R45 item 4, R190: the chunk that ends the learning appends the only window, too few for a detection. -/
theorem State.Inv.learn_of_detection (h : s.Inv) {d : Detection}
    (hsome : sustained s.cfg (s.windowsAfter x) x = some d) : s.learn = false := by
  refine eq_false_of_ne_true fun hlearn => ?_
  obtain ⟨hfive, -⟩ := sustained_cases hsome
  obtain ⟨-, -, hnil⟩ := h.learning hlearn
  rw [State.windowsAfter, hnil, appendWindow_room (by decide)] at hfive
  exact absurd hfive (by simp)

/-! ## The mode after an accepted PROC -/

/-- R178: an accepted PROC is suppressed and stays LATCHED, or learns and stays LEARNING, or classifies and is ACTIVE
after it, or detects, which it does not when LEARNING, and is LATCHED after it. -/
inductive ModeMove (s : State) (x : F64) (t : State) : Prop
  | suppressed (hlatch : s.InForce x) (hbefore : s.mode = .latched) (hafter : t.mode = .latched)
  | learned (hlearn : s.Learns x) (hbefore : s.mode = .learning) (hafter : t.mode = .learning)
  | classified (hlatch : ¬ s.InForce x) (hlearn : ¬ s.Learns x) (hresp : t.resp ≠ some ⟨0x01#8, 4#64, true⟩)
      (hafter : t.mode = .active)
  | detected (hbefore : s.mode ≠ .learning) (hlatch : ¬ s.InForce x) (hresp : t.resp = some ⟨0x01#8, 4#64, true⟩)
      (hafter : t.mode = .latched)

theorem State.Inv.modeMove (h : s.Inv) (ha : s.Accepts (s.stampTime st)) (ht : exec (.proc st) s = .next t) :
    ModeMove s (s.stampTime st) t := by
  have hconf := ha.configured
  by_cases hlatch : s.InForce (s.stampTime st)
  · have ⟨hset, _⟩ := hlatch
    have hlearn := h.learn_of_latch hset
    cases (exec_proc_of_inForce ha hlatch).symm.trans ht
    exact .suppressed hlatch (mode_of_latch hconf hlearn hset)
      (mode_of_latch (by simpa using hconf) (by simpa using hlearn) (by simpa using hset))
  by_cases hlearn : s.Learns (s.stampTime st)
  · have ⟨hset, _⟩ := hlearn
    cases (exec_proc_of_learns ha hlatch hlearn).symm.trans ht
    exact .learned hlearn (mode_of_learn hconf hset) (mode_of_learn (by simpa using hconf) (by simpa using hset))
  cases hd : sustained s.cfg (s.windowsAfter (s.stampTime st)) (s.stampTime st) with
  | none =>
    cases (exec_proc_of_no_detection ha hlatch hlearn hd).symm.trans ht
    exact .classified hlatch hlearn (by simp [ResultCode.byte])
      (mode_of_unlatched (by simpa using hconf) (by simp) (by simp))
  | some d =>
    cases (exec_proc_of_detection ha hlatch hlearn hd).symm.trans ht
    have hover := h.learn_of_detection hd
    exact .detected (fun hmode => Bool.noConfusion (hover.symm.trans (learn_of_mode hmode))) hlatch rfl
      (mode_of_latch (by simpa using hconf) (by simp) (by simp))

/-- Settles O48: the rows of R178 are the moves of `ModeMove`, and INIT and SRST clear the flags. -/
theorem modeTransitions : Obligations.ModeTransitions := by
  refine fun s h => ⟨fun st t ha ht => ?_, fun t ht hmode hcheck => ?_, fun t ht => ?_⟩
  · cases h.modeMove ha ht with
    | suppressed hlatch hbefore hafter => simp [hlatch, hbefore, hafter]
    | learned hlearn hbefore hafter => simp [hlearn, hbefore, hafter]
    | classified hlatch hlearn hresp hafter => simp [hlatch, hlearn, hresp, hafter]
    | detected hbefore hlatch hresp hafter => simp [hbefore, hlatch, hresp, hafter]
  · cases (exec_init_of_legal (mode_eq_unconfigured_iff.mp hmode) hcheck).symm.trans ht
    exact mode_of_learn rfl rfl
  · cases (srstEndsInstance s).symm.trans ht
    exact mode_eq_unconfigured_iff.mpr rfl

/-! ## One command while the latch is in force -/

theorem byte_ne_event {c : ResultCode} (herr : isErrorCode c.byte = true) : c.byte ≠ 0x01#8 := by
  intro hevent
  rw [hevent] at herr
  exact absurd herr (by decide)

/-- The latch, the event and the windows stay, as does what the latch depends on, and no event is emitted. -/
structure State.EventSilent (s t : State) : Prop where
  latch : t.latch = s.latch
  lastAlarmTime : t.lastAlarmTime = s.lastAlarmTime
  cfg : t.cfg = s.cfg
  evt : t.evt = s.evt
  windows : t.windows = s.windows
  resp : ∃ r, t.resp = some r ∧ r.evt = false ∧ r.result ≠ 0x01#8

theorem State.EventSilent.trans (hst : s.EventSilent t) (htu : t.EventSilent u) : s.EventSilent u where
  latch := htu.latch.trans hst.latch
  lastAlarmTime := htu.lastAlarmTime.trans hst.lastAlarmTime
  cfg := htu.cfg.trans hst.cfg
  evt := htu.evt.trans hst.evt
  windows := htu.windows.trans hst.windows
  resp := htu.resp

/-- R179: the commands that leave a latch in force alone: all but SRST and a PROC at a time, or at a draw, at which it
need not be in force. -/
def State.LetsLatchStand (s : State) : Instr → Prop
  | .srst | .proc .wall => False
  | .proc (.given x) => s.InForce x
  | .nop | .cfgw _ _ | .cfgr _ | .init | .push _ | .anlz | .regr _ | .winr _ _ | .evtr _ => True

theorem State.EventSilent.letsLatchStand (h : s.EventSilent t) {i : Instr} (hi : s.LetsLatchStand i) :
    t.LetsLatchStand i := by
  cases i with
  | proc st =>
    cases st with
    | wall => exact hi
    | given x =>
      have hlatch : s.InForce x := hi
      rwa [State.LetsLatchStand, State.InForce, h.latch, h.lastAlarmTime, h.cfg]
  | _ => exact hi

/-- A PROC at a time when the latch is in force is rejected or suppressed (R167), so it emits no event. -/
theorem execProc_eventSilent (hlatch : s.InForce (s.stampTime st)) (ht : execProc st s = .next t) :
    s.EventSilent t := by
  have hforce : (s.afterStamp st).latchInForce (s.stampTime st) = true := by simpa using inForce_iff.mp hlatch
  rcases execProc_cases ht with ⟨-, rfl⟩ | ⟨-, -, rfl⟩ | ⟨-, -, rfl⟩
  · exact ⟨rfl, rfl, rfl, rfl, rfl, _, rfl, rfl, by decide⟩
  · exact ⟨rfl, rfl, rfl, rfl, rfl, _, rfl, rfl, by decide⟩
  cases htime : (s.afterStamp st).timeOk (s.stampTime st) with
  | false =>
    rw [procAt_of_badTime htime]
    exact ⟨by simp, by simp, by simp, by simp, by simp, _, rfl, rfl, by decide⟩
  | true =>
    rw [procAt_of_inForce htime hforce]
    exact ⟨by simp, by simp, by simp, by simp, by simp, _, rfl, rfl, by decide⟩

/-- While configured, a command other than INIT, SRST and PROC emits no event and keeps the windows. -/
theorem Effect.eventSilent {o : Option Instr} (he : Effect s o t) (hconf : s.configured = true)
    (hinit : o ≠ some .init) (hsrst : o ≠ some .srst) (hproc : ∀ st, o ≠ some (.proc st)) : s.EventSilent t := by
  cases he with
  | answer | push | analyse | overflow | wrongLength => exact ⟨rfl, rfl, rfl, rfl, rfl, _, rfl, rfl, nofun⟩
  | refuse _ _ herr => exact ⟨rfl, rfl, rfl, rfl, rfl, _, rfl, rfl, byte_ne_event herr⟩
  | configure _ _ _ hfree => exact Bool.noConfusion (hconf.symm.trans hfree)
  | init => exact absurd rfl hinit
  | srst => exact absurd rfl hsrst
  | badTime st | suppress st | learn st | classify st | detect st => exact absurd rfl (hproc st)

theorem exec_eventSilent {i : Instr} (hconf : s.configured = true) (hi : s.LetsLatchStand i) (ht : exec i s = .next t) :
    s.EventSilent t := by
  cases i with
  | srst => exact hi.elim
  | proc st =>
    cases st with
    | wall => exact hi.elim
    | given x =>
      have hlatch : s.InForce x := hi
      exact execProc_eventSilent (st := .given x) hlatch ht
  | init =>
    cases (exec_init_of_configured hconf).symm.trans ht
    exact ⟨rfl, rfl, rfl, rfl, rfl, _, rfl, rfl, by decide⟩
  | _ => exact (exec_effect ht).eventSilent hconf nofun nofun nofun

/-! ## A run of commands while the latch is in force -/

theorem runCommands_cons_eq_next {i : Instr} {rest : List Instr} (h : runCommands (i :: rest) s = .next u) :
    ∃ t, exec i s = .next t ∧ runCommands rest t = .next u := by
  rw [runCommands] at h
  split at h
  · next t ht => exact ⟨t, ht, h⟩
  · cases h
  · cases h

theorem State.Inv.configured_of_latch (h : s.Inv) (hlatch : s.latch = true) : s.configured = true :=
  h.configured_of_evtValid (h.latched hlatch).2

/-- A run that lets the latch stand is empty or emits no event. -/
theorem runCommands_eventSilent (cmds : List Instr) (h : s.Inv) (hlatch : s.latch = true)
    (hcmds : ∀ i ∈ cmds, s.LetsLatchStand i) (hrun : runCommands cmds s = .next u) :
    (cmds = [] ∧ u = s) ∨ s.EventSilent u := by
  induction cmds generalizing s with
  | nil =>
    injection hrun with hrun
    exact .inl ⟨rfl, hrun.symm⟩
  | cons i rest ih =>
    obtain ⟨hi, hrest⟩ := List.forall_mem_cons.mp hcmds
    obtain ⟨t, ht, hrun⟩ := runCommands_cons_eq_next hrun
    have hstep := exec_eventSilent (h.configured_of_latch hlatch) hi ht
    rcases ih ((exec_effect ht).inv h) (hstep.latch.trans hlatch) (fun j hj => hstep.letsLatchStand (hrest j hj)) hrun
      with ⟨-, rfl⟩ | hsilent
    · exact .inr hstep
    · exact .inr (hstep.trans hsilent)

/-- Settles O49: none of the commands ends the latch, so the run emits no event. -/
theorem noEventWhileLatched : Obligations.NoEventWhileLatched := by
  intro s u cmds h hlatch hsrst hwall hgiven hrun
  have hcmds : ∀ i ∈ cmds, s.LetsLatchStand i := by
    intro i hi
    cases i with
    | srst => exact hsrst hi
    | proc st =>
      cases st with
      | wall => exact absurd hi hwall
      | given x => exact ⟨hlatch, hgiven x hi⟩
    | _ => trivial
  rcases runCommands_eventSilent cmds h hlatch hcmds hrun with ⟨hnil, rfl⟩ | hsilent
  · exact ⟨hlatch, rfl, rfl, rfl, fun hne => absurd hnil hne⟩
  · exact ⟨hsilent.latch.trans hlatch, hsilent.lastAlarmTime, hsilent.evt, hsilent.windows, fun _ => hsilent.resp⟩

end Sys2Proof.Machine
end

section
/-! PROOFS. Ratios of counts (spec 00 R10): a count converts exactly, so a ratio of counts is the exact ratio rounded
once, and rounding never takes a number across a finite value. -/

namespace Sys2Proof

variable {a b v : F64} {r : ℝ} (site : NanSite)

/-! ## Rounding and the order -/

theorem F64.lt_overflowBound (h : r < 2 ^ 53) : r < F64.overflowBound := by
  have hbound : 2 ^ 53 < F64.overflowBound := by decide +kernel
  exact h.trans (by exact_mod_cast hbound)

/-- A finite value that a number is not below is not above the number's rounding. -/
theorem F64.RoundsTo.le_of_le (hv : F64.RoundsTo r v) (hr : |r| < F64.overflowBound) (ha : a.isFinite = true)
    (hle : a.toReal ≤ r) : F64.le a v = true := by
  obtain ⟨-, -, -, hnear⟩ := hv
  obtain ⟨hfin, hnear⟩ := hnear hr
  obtain ⟨hdist, -⟩ := hnear a ha
  have hreal : a.toReal ≤ v.toReal := by
    by_contra hlt
    rw [abs_of_nonpos (by linarith), abs_of_nonpos (by linarith)] at hdist
    linarith
  exact (F64.le_iff a v).mpr
    ⟨F64.isNaN_of_isFinite ha, F64.isNaN_of_isFinite hfin, (F64.toReal_le_iff a v).mp hreal⟩

/-! ## Counts -/

/-- A count below 2^53 is a binary64 value: its binade has room for all its bits. -/
theorem F64.exists_unitsOf_count {n : Nat} (hn : n < 2 ^ 53) :
    ∃ m, m < F64.infBits ∧ n <<< 1074 = F64.unitsOf m := by
  rcases n.eq_zero_or_pos with rfl | hpos
  · exact ⟨0, by decide, by simp⟩
  have hlog : n.log2 ≤ 52 := Nat.le_of_lt_succ ((Nat.log2_lt hpos.ne').mpr hn)
  have hshift : 2 ^ n.log2 * 2 ^ (52 - n.log2) = 2 ^ 52 := by rw [← pow_add, Nat.add_sub_cancel' hlog]
  have hlo : 2 ^ 52 ≤ n * 2 ^ (52 - n.log2) := hshift ▸ Nat.mul_le_mul_right _ (Nat.log2_self_le hpos.ne')
  have hhi : n * 2 ^ (52 - n.log2) < 2 ^ 53 := by
    calc n * 2 ^ (52 - n.log2)
      _ < 2 ^ (n.log2 + 1) * 2 ^ (52 - n.log2) := Nat.mul_lt_mul_of_pos_right Nat.lt_log2_self (by positivity)
      _ = 2 ^ 53 := by rw [pow_succ, Nat.mul_right_comm, hshift, ← pow_succ]
  refine ⟨(1022 + n.log2) * 2 ^ 52 + n * 2 ^ (52 - n.log2), by rw [F64.infBits_eq]; omega, ?_⟩
  rw [F64.unitsOf_binade (.inr hlo) hhi.le, Nat.shiftLeft_eq, Nat.mul_assoc, ← pow_add]
  congr 2
  omega

/-- A count converts exactly. -/
theorem F64.ofNat_toReal {n : Nat} (hn : n < 2 ^ 53) : (F64.ofNat n).toReal = n := by
  obtain ⟨m, hm, hunits⟩ := F64.exists_unitsOf_count hn
  have hmag : (F64.ofNat n).magBits = m := by
    rw [F64.ofNat, F64.round_magBits, F64.roundMag_of_unitsOf Nat.one_pos (by rw [hunits, Nat.mul_one]),
      min_eq_right hm.le]
  rw [F64.toReal_eq_abs, F64.ofNat_sign, if_neg Bool.false_ne_true, F64.abs_toReal, hmag, ← hunits,
    F64.cast_shiftLeft, mul_div_cancel_right₀ _ (by positivity)]

theorem F64.ofNat_isFinite {n : Nat} (hn : n < 2 ^ 53) : (F64.ofNat n).isFinite = true := by
  obtain ⟨hround, -⟩ := conversionsAreCorrectlyRounded
  obtain ⟨-, -, -, hnear⟩ := hround n
  rw [Nat.abs_cast] at hnear
  obtain ⟨hfin, -⟩ := hnear (F64.lt_overflowBound (by exact_mod_cast hn))
  exact hfin

section
variable {m n : Nat} (hm : m < 2 ^ 53) (hn : n < 2 ^ 53) (hpos : 0 < n)
include hm hn hpos

/-- The ratio of two counts is rounded once. -/
theorem F64.roundsTo_div_ofNat : F64.RoundsTo ((m : ℝ) / n) (F64.div site (F64.ofNat m) (F64.ofNat n)) := by
  rw [← F64.ofNat_toReal hm, ← F64.ofNat_toReal hn]
  exact F64.roundsTo_div site (F64.ofNat_isFinite hm) (F64.ofNat_isFinite hn) (F64.ofNat_isZero_of_pos hpos)

theorem F64.le_div_ofNat (ha : a.isFinite = true) (hle : a.toReal ≤ (m : ℝ) / n) :
    F64.le a (F64.div site (F64.ofNat m) (F64.ofNat n)) = true := by
  refine (F64.roundsTo_div_ofNat site hm hn hpos).le_of_le (F64.lt_overflowBound ?_) ha hle
  rw [abs_of_nonneg (by positivity)]
  calc (m : ℝ) / n
    _ ≤ m := div_le_self (Nat.cast_nonneg m) (by exact_mod_cast hpos)
    _ < 2 ^ 53 := by exact_mod_cast hm

/-- 81 or more of 100 rounds above 0.80: the next binary64 value lies between. -/
theorem F64.lt_div_ofNat_of_81_of_100 (h : 81 * n ≤ 100 * m) :
    F64.lt 0x3FE999999999999A#64 (F64.div site (F64.ofNat m) (F64.ofNat n)) = true := by
  have hnext : F64.toReal 0x3FE999999999999B#64 ≤ 81 / 100 := by
    have hunits : 100 * F64.signedUnits 0x3FE999999999999B#64 ≤ 81 * 2 ^ 1074 := by decide +kernel
    rw [F64.toReal_eq, div_le_div_iff₀ (by positivity) (by norm_num), mul_comm]
    simpa only [Int.cast_mul, Int.cast_pow, Int.cast_ofNat] using (Int.cast_le (R := ℝ)).mpr hunits
  have hratio : (81 / 100 : ℝ) ≤ m / n := by
    rw [div_le_div_iff₀ (by norm_num) (Nat.cast_pos.mpr hpos), mul_comm (m : ℝ)]
    exact_mod_cast h
  exact F64.lt_of_lt_of_le (by decide) (F64.le_div_ofNat site hm hn hpos (by decide) (hnext.trans hratio))

end

/-! ## A quotient and a product that are exact -/

theorem F64.div_self (ha : a.isFinite = true) (hz : a.isZero = false) :
    F64.div site a a = 0x3FF0000000000000#64 := by
  have hunits : F64.units 0x3FF0000000000000#64 = 1 <<< 1074 := by decide +kernel
  have hpos : 0 < a.units := Nat.pos_of_ne_zero (F64.units_eq_zero.not.mpr (Bool.eq_false_iff.mp hz))
  rw [F64.div_of_not_isInf site (F64.not_divInvalid_of_isFinite ha ha (.inr hz)) (F64.isInf_of_isFinite ha)
    (F64.isInf_of_isFinite ha) hz, bne_self_eq_false]
  exact F64.round_of_units (a := 0x3FF0000000000000#64) (by decide) hpos
    (by rw [hunits, Nat.shiftLeft_eq, Nat.one_shiftLeft, Nat.mul_comm])

/-- One more in the exponent field doubles the units of a normal value. -/
theorem F64.unitsOf_add_exponent {m : Nat} (hm : 2 ^ 52 ≤ m) : F64.unitsOf (m + 2 ^ 52) = F64.unitsOf m * 2 := by
  obtain ⟨e, k, rfl, hlo, hhi⟩ := F64.exists_binade m
  have hk : 2 ^ 52 ≤ k := by omega
  rw [F64.unitsOf_binade hlo hhi.le, show e * 2 ^ 52 + k + 2 ^ 52 = (e + 1) * 2 ^ 52 + k by ring,
    F64.unitsOf_binade (.inr hk) hhi.le, pow_succ, Nat.mul_assoc]

section
variable (hlo : 2 ^ 52 ≤ a.magBits) (hhi : a.magBits + 2 ^ 52 < F64.infBits)
include hlo hhi

/-- Twice a normal value below half the greatest is exact: only the exponent field moves. -/
theorem F64.mul_two_of_normal : F64.mul site a 0x4000000000000000#64 = F64.pack a.sign (a.magBits + 2 ^ 52) := by
  have hunits : F64.units 0x4000000000000000#64 = 2 * 2 ^ 1074 := by decide +kernel
  have hfin : a.isFinite = true := (F64.isFinite_iff a).mpr (by omega)
  rw [F64.mul_of_not_isInf site (F64.not_mulInvalid_of_isFinite hfin (by decide)) (F64.isInf_of_isFinite hfin)
    (by decide), show (a.sign != F64.sign 0x4000000000000000#64) = a.sign from Bool.xor_false _, F64.round,
    F64.roundMag_of_unitsOf (by positivity)
      (by rw [F64.unitsOf_add_exponent hlo, ← F64.units_eq, hunits, Nat.mul_assoc]),
    min_eq_right hhi.le]

theorem F64.mul_two_key (hs : a.sign = false) :
    (F64.mul site a 0x4000000000000000#64).isNaN = false ∧
      (F64.mul site a 0x4000000000000000#64).key = a.key + 2 ^ 52 := by
  have hbits : a.magBits + 2 ^ 52 < 2 ^ 63 := hhi.trans F64.infBits_lt
  rw [F64.mul_two_of_normal site hlo hhi, ← Bool.not_eq_true, F64.isNaN_iff, F64.pack_magBits hbits, F64.key, F64.key,
    F64.pack_sign hbits, F64.pack_magBits hbits, hs]
  exact ⟨hhi.not_gt, by simp⟩

/-- So twice a positive normal value compares with `whole` as the value does with `half`, where `whole` is twice
`half`. -/
theorem F64.mul_two_compare {half whole : F64} (hs : a.sign = false) (hhalf : half.isNaN = false)
    (hwhole : whole.isNaN = false) (hdouble : whole.key = half.key + 2 ^ 52) :
    F64.lt (F64.mul site a 0x4000000000000000#64) whole = F64.lt a half ∧
      F64.le whole (F64.mul site a 0x4000000000000000#64) = F64.le half a := by
  have hnan : a.isNaN = false := F64.isNaN_of_isFinite ((F64.isFinite_iff a).mpr (by omega))
  obtain ⟨htwice, hkey⟩ := F64.mul_two_key site hlo hhi hs
  simp [F64.lt, F64.le, hnan, hhalf, hwhole, htwice, hkey, hdouble]

end

/-! ## The order -/

theorem F64.sign_of_key_pos (h : 0 < a.key) : a.sign = false := by
  by_contra hs
  rw [F64.key, if_pos (eq_true_of_ne_false hs)] at h
  omega

theorem F64.key_of_sign (hs : a.sign = false) : a.key = a.magBits := if_neg (by simp [hs])

theorem F64.min_of_lt (h : F64.lt b a = true) : F64.min a b = b := if_pos h

theorem F64.min_of_not_lt (h : F64.lt b a = false) : F64.min a b = a := if_neg (by simp [h])

end Sys2Proof
end

section
/-! PROOFS. The sustained analysis (spec 44): the decision predicate with its literals as patterns (R196, R197), what a
detection implies (R198, R203), and what rules one out (R200, R201). -/

namespace Sys2Proof.Machine

variable {c : CfgRegs} {l : List Window} {s t : State} {x : F64} {d : Detection}

/-! ## The decision predicate -/

theorem ten_pattern : F64.ofNat 10 = 0x4024000000000000#64 := by decide +kernel

theorem hundred_pattern : F64.ofNat 100 = 0x4059000000000000#64 := by decide +kernel

theorem five_hundred_pattern : F64.ofNat 500 = 0x407F400000000000#64 := by decide +kernel

/-- R196 (e). -/
theorem frequencyConsistent_iff {freqStd avgRatio : F64} : frequencyConsistent freqStd avgRatio = true ↔
    (F64.lt 0x4024000000000000#64 freqStd = true ∧ F64.lt freqStd 0x4059000000000000#64 = true) ∨
    (F64.le freqStd 0x4024000000000000#64 = true ∧ F64.gt avgRatio 0x407F400000000000#64 = true) := by
  rw [frequencyConsistent, ten_pattern, hundred_pattern, five_hundred_pattern, Bool.or_eq_true, Bool.and_eq_true,
    Bool.and_eq_true]

/-- R196, (a) to (h). -/
theorem decideDetection_iff {occ avgFreq freqStd avgRatio ssv : F64} {n : Nat} :
    decideDetection c occ avgFreq freqStd avgRatio ssv n = true ↔
      F64.ge occ c.occThresh = true ∧
      (F64.le 0x3FC999999999999A#64 occ = true ∧ F64.le occ 0x3FE999999999999A#64 = true) ∧
      F64.gt avgRatio c.minRatio = true ∧
      (F64.le 0x3FB999999999999A#64 ssv = true ∧ F64.le ssv 0x4000000000000000#64 = true) ∧
      ((F64.lt 0x4024000000000000#64 freqStd = true ∧ F64.lt freqStd 0x4059000000000000#64 = true) ∨
        (F64.le freqStd 0x4024000000000000#64 = true ∧ F64.gt avgRatio 0x407F400000000000#64 = true)) ∧
      (F64.lt 0x3FC999999999999A#64 ssv = true ∧ F64.lt ssv 0x3FF3333333333333#64 = true) ∧
      (F64.le (F64.sub .pure c.targetFreq c.freqTol) avgFreq = true ∧
        F64.le avgFreq (F64.add .pure c.targetFreq c.freqTol) = true) ∧
      5 ≤ n := by
  simp only [decideDetection, CfgRegs.inBand, CfgRegs.bandLow, CfgRegs.bandHigh, occupationLow_pattern,
    occupationHigh_pattern, tenth_pattern, two_pattern, variationLow_pattern, variationHigh_pattern, Bool.and_eq_true,
    decide_eq_true_eq, frequencyConsistent_iff, and_assoc]

/-- R197: (f) is the stricter of the two tests of ssv. -/
theorem variationBounds_of_strict {ssv : F64} (hlo : F64.lt 0x3FC999999999999A#64 ssv = true)
    (hhi : F64.lt ssv 0x3FF3333333333333#64 = true) :
    F64.le 0x3FB999999999999A#64 ssv = true ∧ F64.le ssv 0x4000000000000000#64 = true :=
  ⟨F64.le_trans (by decide) (F64.le_of_lt hlo), F64.le_trans (F64.le_of_lt hhi) (by decide)⟩

/-! ## The sustained analysis, by its counts -/

theorem sustained_of_few (h : l.length < 5 ∨ (l.filter (Window.recent c x)).length < 3 ∨
    ((l.filter (Window.recent c x)).filter Window.strong).length < 2) : sustained c l x = none := by
  cases hd : sustained c l x with
  | none => rfl
  | some d =>
    obtain ⟨hheld, hrecent, hstrong, -⟩ := sustained_cases hd
    omega

theorem sustained_of_enough (hheld : 5 ≤ l.length) (hrecent : 3 ≤ (l.filter (Window.recent c x)).length)
    (hstrong : 2 ≤ ((l.filter (Window.recent c x)).filter Window.strong).length) :
    sustained c l x =
      analyseStrong c (l.filter (Window.recent c x)) ((l.filter (Window.recent c x)).filter Window.strong) := by
  rw [sustained, if_neg hheld.not_gt, if_neg hrecent.not_gt, if_neg hstrong.not_gt]

theorem mean_map {α : Type} (f : α → F64) (l : List α) :
    mean (l.map f) = F64.div .pure (F64.sum (l.map f)) (F64.ofNat l.length) := by
  rw [mean, List.length_map]

theorem deviation_map {α : Type} (f : α → F64) (l : List α) (m : F64) : deviation (l.map f) m =
    F64.sqrt .pure (F64.div .pure (F64.sum (l.map fun w =>
      F64.mul .pure (F64.sub .pure (f w) m) (F64.sub .pure (f w) m))) (F64.ofNat l.length)) := by
  rw [deviation, List.map_map, mean_map]
  rfl

/-- Settles O36: the predicate with each literal as its pattern, and the statistics written out. -/
theorem decisionPredicate : Obligations.DecisionPredicate := by
  refine ⟨fun c occ avgFreq freqStd avgRatio ssv n => ⟨decideDetection_iff, ?_⟩, ?_⟩
  · exact and_iff_right_of_imp fun ⟨hlo, hhi⟩ => variationBounds_of_strict hlo hhi
  · rintro c l _ _ t _ _ _ _ _ _ _ rfl rfl rfl rfl rfl rfl rfl rfl rfl
    refine ⟨sustained_of_few, fun hheld hrecent hstrong => (sustained_of_enough hheld hrecent hstrong).trans ?_⟩
    simp only [analyseStrong, mean_map, deviation_map, eps, eps_pattern]
    rfl

/-! ## What a detection implies -/

/-- R195, R196 (a), (b), (h): the occupation of a detection, its tests, and the count of strong windows. -/
theorem sustained_occ (h : sustained c l x = some d) :
    d.occ = F64.div .pure (F64.ofNat ((l.filter (Window.recent c x)).filter Window.strong).length)
      (F64.ofNat (l.filter (Window.recent c x)).length) ∧
    F64.le c.occThresh d.occ = true ∧ F64.le 0x3FC999999999999A#64 d.occ = true ∧
    F64.le d.occ 0x3FE999999999999A#64 = true ∧
    5 ≤ ((l.filter (Window.recent c x)).filter Window.strong).length := by
  obtain ⟨-, -, -, hsome⟩ := sustained_cases h
  simp only [analyseStrong] at hsome
  split at hsome
  case isFalse => cases hsome
  case isTrue hdecide =>
    cases hsome
    obtain ⟨hthresh, ⟨hlo, hhi⟩, -, -, -, -, -, hfive⟩ := decideDetection_iff.mp hdecide
    exact ⟨rfl, hthresh, hlo, hhi, hfive⟩

/-- Settles O32: with more than 80 strong windows, or fewer than 7 recent ones, occ is 0.81 or more before rounding. -/
theorem detectionNeedsFiveOfSeven : Obligations.DetectionNeedsFiveOfSeven := by
  intro c l x d hlen h
  obtain ⟨hocc, -, -, hhi, hfive⟩ := sustained_occ h
  have hrecent := List.length_filter_le (Window.recent c x) l
  have hstrong := List.length_filter_le Window.strong (l.filter (Window.recent c x))
  generalize ((l.filter (Window.recent c x)).filter Window.strong).length = m at *
  generalize (l.filter (Window.recent c x)).length = n at *
  by_contra hcounts
  have hmore := F64.lt_div_ofNat_of_81_of_100 .pure (m := m) (n := n) (by omega) (by omega) (by omega) (by omega)
  rw [← hocc] at hmore
  exact absurd (F64.lt_of_lt_of_le hmore hhi) (by decide)

/-! ## What rules a detection out -/

/-- Settles O33: the strong recent windows are the recent ones, and their number over itself is 1.0, above 0.80. -/
theorem allStrongNeverDetects : Obligations.AllStrongNeverDetects := by
  intro c l x hlen hall
  have hstrong : (l.filter (Window.recent c x)).filter Window.strong = l.filter (Window.recent c x) :=
    List.filter_eq_self.mpr fun w hw => (List.mem_filter.mp hw).elim (hall w)
  have hocc (hne : l.filter (Window.recent c x) ≠ []) :
      F64.div .pure (F64.ofNat (l.filter (Window.recent c x)).length)
        (F64.ofNat (l.filter (Window.recent c x)).length) = 0x3FF0000000000000#64 := by
    have hrecent := List.length_filter_le (Window.recent c x) l
    exact F64.div_self .pure (F64.ofNat_isFinite (by omega))
      (F64.ofNat_isZero_of_pos (List.length_pos_iff.mpr hne))
  refine ⟨by rwa [hstrong], Option.eq_none_iff_forall_ne_some.mpr fun d h => ?_⟩
  obtain ⟨hone, -, -, hhi, hfive⟩ := sustained_occ h
  rw [hstrong] at hone hfive
  rw [hone, hocc (List.ne_nil_of_length_pos (by omega))] at hhi
  exact absurd hhi (by decide)

/-- R201: an occupation is at most 0.80, so it does not reach a threshold above. -/
theorem sustained_of_highThreshold (hc : F64.gt c.occThresh 0x3FE999999999999A#64 = true) (l : List Window) (x : F64) :
    sustained c l x = none := by
  refine Option.eq_none_iff_forall_ne_some.mpr fun d h => ?_
  obtain ⟨-, hthresh, -, hhi, -⟩ := sustained_occ h
  exact absurd (F64.lt_of_lt_of_le hc (F64.le_trans hthresh hhi)) (by decide)

/-- R240: no other code has the byte of EVENT. -/
@[simp] theorem ResultCode.byte_eq_event (c : ResultCode) : c.byte = 0x01#8 ↔ c = .event := by
  cases c <;> decide

/-- R252: PROC answers EVENT only where the sustained analysis detects. -/
theorem procAt_result_ne_event (hnone : ∀ l, sustained s.cfg l x = none) : (s.procAt x).result ≠ some 0x01#8 := by
  rcases procAt_cases (s := s) x with ⟨-, hp⟩ | ⟨-, -, hp⟩ | ⟨-, -, -, hp⟩ | ⟨-, -, -, hp⟩ <;> rw [hp]
  · simp
  · simp
  · simp
  · rw [analysed_of_none (by simpa using hnone _)]
    simp

theorem execProc_result_ne_event {st : Stamp} (hnone : ∀ l x, sustained s.cfg l x = none)
    (ht : execProc st s = .next t) : t.result ≠ some 0x01#8 := by
  rcases execProc_cases ht with ⟨-, rfl⟩ | ⟨-, -, rfl⟩ | ⟨-, -, rfl⟩
  · simp
  · simp
  · exact procAt_result_ne_event (by simpa using fun l => hnone l _)

/-- Settles O34: neither the analysis nor PROC can detect, and the test of the register is only its range. -/
theorem highThresholdNeverDetects : Obligations.HighThresholdNeverDetects := by
  refine fun c hc => ⟨sustained_of_highThreshold hc, fun s t st r hcfg ht hresp hevent => ?_, fun hone => ?_⟩
  · subst hcfg
    refine execProc_result_ne_event (sustained_of_highThreshold hc) ht ?_
    rw [State.result, hresp, Option.map_some, hevent]
  · have hpos : F64.gt c.occThresh 0#64 = true := F64.lt_of_le_of_lt (by decide) hc
    obtain ⟨-, hmask⟩ := configCheckMask
    obtain ⟨-, -, -, -, -, -, -, -, hbit, -⟩ := hmask c
    exact hbit.mpr ⟨hpos, hone⟩

/-! ## The confidence -/

/-- R196 (b): an occupation a detection can have is a positive normal value that doubles without overflow. -/
theorem occ_normal {occ : F64} (hlo : F64.le 0x3FC999999999999A#64 occ = true)
    (hhi : F64.le occ 0x3FE999999999999A#64 = true) :
    occ.sign = false ∧ 2 ^ 52 ≤ occ.magBits ∧ occ.magBits + 2 ^ 52 < F64.infBits := by
  obtain ⟨-, -, hlo⟩ := (F64.le_iff _ _).mp hlo
  obtain ⟨-, -, hhi⟩ := (F64.le_iff _ _).mp hhi
  have hlowKey : F64.key 0x3FC999999999999A#64 = 0x3FC999999999999A := by decide
  have hhighKey : F64.key 0x3FE999999999999A#64 = 0x3FE999999999999A := by decide
  have hsign := F64.sign_of_key_pos (a := occ) (by omega)
  have hkey := F64.key_of_sign hsign
  have hinf := F64.infBits_eq
  exact ⟨hsign, by omega, by omega⟩

/-- Settles O35: twice occ is exact, so it is below 1.0 exactly when occ is below 0.5, and never below 0.4. -/
theorem confidenceRange : Obligations.ConfidenceRange := by
  intro c l x d h
  obtain ⟨-, -, hlo, hhi, -⟩ := sustained_occ h
  have hconf : (eventOf c x d).conf = F64.min 0x3FF0000000000000#64 (F64.mul .pure d.occ 0x4000000000000000#64) := by
    rw [eventOf_eq]
  obtain ⟨hsign, hnormal, hroom⟩ := occ_normal hlo hhi
  obtain ⟨hone, -⟩ := F64.mul_two_compare .pure hnormal hroom (half := 0x3FE0000000000000#64)
    (whole := 0x3FF0000000000000#64) hsign (by decide) (by decide) (by decide)
  obtain ⟨-, hlow⟩ := F64.mul_two_compare .pure hnormal hroom (half := 0x3FC999999999999A#64)
    (whole := 0x3FD999999999999A#64) hsign (by decide) (by decide) (by decide)
  obtain ⟨-, hnan, -⟩ := (F64.le_iff _ _).mp hlo
  have hsplit : F64.lt d.occ 0x3FE0000000000000#64 = !F64.ge d.occ 0x3FE0000000000000#64 :=
    F64.lt_eq_not_le hnan (by decide)
  rw [hconf]
  cases hhalf : F64.lt d.occ 0x3FE0000000000000#64 with
  | true =>
    rw [hhalf] at hone hsplit
    rw [F64.min_of_lt hone]
    exact ⟨⟨hlo, hhi⟩, fun _ => rfl, fun hge => by simp [hge] at hsplit, hlow.trans hlo, F64.le_of_lt hone⟩
  | false =>
    rw [hhalf] at hone
    rw [F64.min_of_not_lt hone]
    exact ⟨⟨hlo, hhi⟩, nofun, fun _ => rfl, by decide, by decide⟩

end Sys2Proof.Machine
end

section
/-! PROOFS. The read-back commands WINR and EVTR (spec 45 R222 to R224): a selector that names a field reads it; one that
names none, or an index past the last window held, lacks its entry and is refused (R242). -/

namespace Sys2Proof.Machine

variable {sel : BitVec 8}

/-! ## WINR -/

theorem exec_winr_of_ofSel (s : State) {idx : BitVec 16} {w : Window} (hw : s.windows[idx.toNat]? = some w)
    (f : WindowField) (hf : WindowField.ofSel sel = some f) :
    exec (.winr sel idx) s = .next (s.answered (w.read f)) := by
  simp only [exec, execWinr, hf, hw]
  rfl

/-- Settles O39: each selector reads the field it names of the window held; past the last field none is named, and
past the last window none is held. -/
theorem winrReadsWindows : Obligations.WinrReadsWindows := by
  refine fun s idx => ⟨fun w hw => ?_, fun sel hlacks => exec_of_lacksEntry ?_⟩
  · exact ⟨exec_winr_of_ofSel s hw .ts rfl, exec_winr_of_ofSel s hw .strong rfl, exec_winr_of_ofSel s hw .freq rfl,
      exec_winr_of_ofSel s hw .ratio rfl, exec_winr_of_ofSel s hw .mag rfl⟩
  · exact hlacks.imp WindowField.ofSel_eq_none.mpr List.getElem?_eq_none

/-! ## EVTR -/

theorem exec_evtr_of_ofSel (s : State) (e : EventField) (he : EventField.ofSel sel = some e) :
    exec (.evtr sel) s = .next (s.answered (s.evt.read e)) := by
  simp only [exec, execEvtr, he]
  rfl

/-- Settles O40: each selector reads the event register it names, and past the last one none is named. -/
theorem evtrReadsEventRegisters : Obligations.EvtrReadsEventRegisters := fun s =>
  ⟨exec_evtr_of_ofSel s .ts rfl, exec_evtr_of_ofSel s .freq rfl, exec_evtr_of_ofSel s .strength rfl,
    exec_evtr_of_ofSel s .conf rfl, exec_evtr_of_ofSel s .type rfl, exec_evtr_of_ofSel s .occ rfl,
    exec_evtr_of_ofSel s .window rfl, fun _ hsel => exec_of_lacksEntry (EventField.ofSel_eq_none.mpr hsel)⟩

end Sys2Proof.Machine
end

section
/-! PROOFS. Errors and responses (spec 60): how a command ends, said once by its response. It raises an error, a precise
one (R245), or answers OK, or is a PROC that ends on one of the paths of R161 (R252). -/

namespace Sys2Proof.Machine

variable {s t : State} {r : Response}

/-! ## No command is stuck -/

/-- R282. -/
theorem exec_next (i : Instr) (s : State) : ∃ t, exec i s = .next t := by
  cases i with
  | nop | srst => exact ⟨_, rfl⟩
  | cfgw =>
    simp only [exec, execCfgw]
    split
    · exact ⟨_, rfl⟩
    · split_ifs <;> exact ⟨_, rfl⟩
  | init | push | proc | anlz =>
    simp only [exec, execInit, execPush, execProc, execAnlz]
    split_ifs <;> exact ⟨_, rfl⟩
  | cfgr | regr | winr | evtr =>
    simp only [exec, execCfgr, execRegr, execWinr, execEvtr]
    split <;> exact ⟨_, rfl⟩

theorem issue_next (w : CmdWord) (d : Word) (s : State) : ∃ t, issue w d s = .next t := by
  cases hdec : decode w d with
  | error e => exact ⟨_, issue_of_decode_error hdec⟩
  | ok i => exact issue_of_decode_ok hdec ▸ exec_next i s

/-- R281. -/
theorem step_next (s : State) : ∃ t, step s = .next t := by
  rcases step_cases (s := s) with ⟨-, hstep⟩ | ⟨_, -, hstep⟩ | ⟨w, d, rest, -, hstep⟩ <;> rw [hstep]
  · exact ⟨_, rfl⟩
  · exact ⟨_, rfl⟩
  · exact issue_next w d _

/-! ## How a command ends -/

/-- What an error leaves, by its code (R240, R245): only the last three touch the input buffer before the raise. -/
inductive Raised (s : State) : State → Prop
  | untouched (c : ResultCode) (hcode : isErrorCode c.byte = true) (hlow : c.byte.toNat < 0x84) :
      Raised s (s.raise c 0#64)
  | configInvalid : Raised s (s.raise .errConfigInvalid s.cfg.check)
  | bufFull : Raised s ({ s with ovf := true }.raise .errBufFull 0#64)
  | wrongLength : Raised s (s.emptyBuffer.raise .errWrongLength 0#64)
  | timestamp (st : Stamp) : Raised s ((s.afterStamp st).emptyBuffer.raise .errTimestamp 0#64)

/-- What a legal command leaves, by its response: `u` is the state that responds, LAST_ERR still as it was. -/
inductive Ending (s : State) : Instr → State → Prop
  | raised {i : Instr} {t : State} (hraised : Raised s t) : Ending s i t
  | answered {i : Instr} (u : State) (data : Word) (hi : ∀ st, i ≠ .proc st) (herr : u.lastErr = s.lastErr) :
      Ending s i (u.respond .ok data)
  | path (st : Stamp) (u : State) (p : U8) (hp : p = 1#8 ∨ p = 2#8 ∨ p = 3#8) (herr : u.lastErr = s.lastErr) :
      Ending s (.proc st) (u.finishPath .ok p)
  | event (st : Stamp) (u : State) (herr : u.lastErr = s.lastErr) :
      Ending s (.proc st) (u.finishPath .event 4#8)

theorem Raised.badSelect : Raised s (s.raise .errBadSelect 0#64) := .untouched _ rfl (by decide)

theorem Raised.notConfigured : Raised s (s.raise .errNotConfigured 0#64) := .untouched _ rfl (by decide)

theorem Raised.cfgLocked : Raised s (s.raise .errCfgLocked 0#64) := .untouched _ rfl (by decide)

theorem execProc_ending {st : Stamp} (h : execProc st s = .next t) : Ending s (.proc st) t := by
  rcases execProc_cases h with ⟨-, rfl⟩ | ⟨-, -, rfl⟩ | ⟨-, -, rfl⟩
  · exact .raised .notConfigured
  · exact .raised .wrongLength
  rcases procAt_cases (s := s.afterStamp st) (s.stampTime st) with
    ⟨-, hp⟩ | ⟨-, -, hp⟩ | ⟨-, -, -, hp⟩ | ⟨-, -, -, hp⟩ <;> rw [hp]
  · exact .raised (.timestamp st)
  · exact .path st _ _ (.inl rfl) (by simp)
  · exact .path st _ _ (.inr (.inl rfl)) (by simp)
  rcases analysed_cases (s.stampTime st) with ⟨-, ha⟩ | ⟨d, -, ha⟩ <;> rw [ha]
  · exact .path st _ _ (.inr (.inr rfl)) (by simp)
  · exact .event st _ (by simp)

theorem exec_ending {i : Instr} (h : exec i s = .next t) : Ending s i t := by
  cases i with
  | nop | srst => injection h with h; exact h ▸ .answered _ _ nofun rfl
  | cfgw =>
    rcases execCfgw_cases h with ⟨-, rfl⟩ | ⟨_, -, -, rfl⟩ | ⟨_, -, -, rfl⟩
    · exact .raised .badSelect
    · exact .raised .cfgLocked
    · exact .answered _ _ nofun rfl
  | init =>
    rcases execInit_cases h with ⟨-, rfl⟩ | ⟨-, -, rfl⟩ | ⟨-, -, rfl⟩
    · exact .raised .cfgLocked
    · exact .raised .configInvalid
    · exact .answered _ _ nofun rfl
  | push =>
    rcases execPush_cases h with ⟨-, rfl⟩ | ⟨-, -, rfl⟩ | ⟨-, -, rfl⟩
    · exact .raised .notConfigured
    · exact .raised .bufFull
    · exact .answered _ _ nofun rfl
  | proc => exact execProc_ending h
  | anlz =>
    rcases execAnlz_cases h with ⟨-, rfl⟩ | ⟨-, -, rfl⟩ | ⟨-, -, rfl⟩
    · exact .raised .notConfigured
    · exact .raised .wrongLength
    · exact .answered _ _ nofun rfl
  | cfgr =>
    rcases execCfgr_cases h with ⟨-, rfl⟩ | ⟨_, -, rfl⟩
    · exact .raised .badSelect
    · exact .answered _ _ nofun rfl
  | regr =>
    rcases execRegr_cases h with ⟨-, rfl⟩ | ⟨_, -, rfl⟩
    · exact .raised .badSelect
    · exact .answered _ _ nofun rfl
  | winr =>
    rcases execWinr_cases h with rfl | ⟨_, _, -, -, rfl⟩
    · exact .raised .badSelect
    · exact .answered _ _ nofun rfl
  | evtr =>
    rcases execEvtr_cases h with ⟨-, rfl⟩ | ⟨_, -, rfl⟩
    · exact .raised .badSelect
    · exact .answered _ _ nofun rfl

/-- An illegal word raises, and any other ends as its command does (R83). -/
theorem issue_raised_or_ending {w : CmdWord} {d : Word} (h : issue w d s = .next t) :
    Raised s t ∨ ∃ i, decode w d = .ok i ∧ Ending s i t := by
  cases hdec : decode w d with
  | error e =>
    cases (issue_of_decode_error hdec).symm.trans h
    exact .inl (.untouched .errIllegal rfl (by decide))
  | ok i => exact .inr ⟨i, rfl, exec_ending (issue_of_decode_ok hdec ▸ h)⟩

/-! ## The response it gives -/

/-- R240, R245: an error has one of the eight error codes and deasserts EVT. -/
theorem Raised.response (h : Raised s t) :
    ∃ (c : ResultCode) (info : Word), t.resp = some ⟨c.byte, info, false⟩ ∧ isErrorCode c.byte = true := by
  cases h with
  | untouched c hcode => exact ⟨c, _, rfl, hcode⟩
  | configInvalid | bufFull | wrongLength | timestamp => exact ⟨_, _, rfl, rfl⟩

theorem Ending.response {i : Instr} (h : Ending s i t) :
    ∃ (c : ResultCode) (data : Word) (evt : Bool), t.resp = some ⟨c.byte, data, evt⟩ := by
  cases h with
  | raised hraised =>
    obtain ⟨c, info, hresp, -⟩ := hraised.response
    exact ⟨c, info, false, hresp⟩
  | answered | path | event => exact ⟨_, _, _, rfl⟩

/-- Settles O41: no command and no step is stuck, and every ending has the byte of a result code. -/
theorem everyCommandResponds : Obligations.EveryCommandResponds := by
  refine ⟨fun i s => ?_, step_next⟩
  obtain ⟨t, ht⟩ := exec_next i s
  obtain ⟨c, data, evt, hresp⟩ := (exec_ending ht).response
  exact ⟨t, _, ht, hresp, byte_mem_resultCodes c⟩

/-! ## Errors are precise -/

theorem Raised.error_code (h : Raised s t) (hr : t.resp = some r) : isErrorCode r.result = true := by
  obtain ⟨c, info, hresp, hcode⟩ := h.response
  cases hresp.symm.trans hr
  exact hcode

theorem Ending.raised_or_no_error {i : Instr} (h : Ending s i t) (hr : t.resp = some r) :
    Raised s t ∨ (t.lastErr = s.lastErr ∧ isErrorCode r.result = false) := by
  cases h with
  | raised hraised => exact .inl hraised
  | answered _ _ _ herr | path _ _ _ _ herr | event _ _ herr =>
    cases hr
    exact .inr ⟨herr, rfl⟩

/-- Settles O42: an error code comes from a raise alone, each leaving what it may, and no other ending writes
LAST_ERR. -/
theorem errorsArePrecise : Obligations.ErrorsArePrecise := by
  intro w d s t r h hr
  have hcases : Raised s t ∨ (t.lastErr = s.lastErr ∧ isErrorCode r.result = false) :=
    (issue_raised_or_ending h).elim .inl fun ⟨_, _, hend⟩ => hend.raised_or_no_error hr
  rcases hcases with hraised | ⟨hkept, hok⟩
  · refine ⟨fun hok => Bool.noConfusion ((hraised.error_code hr).symm.trans hok), fun _ => ?_⟩
    cases hraised with
    | untouched c _ hlow =>
      cases hr
      have hne (b : U8) (hb : 0x84 ≤ b.toNat) : c.byte ≠ b := fun h => absurd (h ▸ hlow) (Nat.not_lt.mpr hb)
      have h84 := hne 0x84#8 (by decide)
      exact ⟨rfl, rfl, (if_neg h84).symm, rfl, fun h => absurd h (hne _ (by decide)),
        fun h => (h.elim (hne _ (by decide)) (hne _ (by decide))).elim, fun _ _ _ => ⟨rfl, rfl⟩⟩
    | configInvalid =>
      cases hr
      exact ⟨rfl, rfl, rfl, rfl, nofun, nofun, fun _ _ _ => ⟨rfl, rfl⟩⟩
    | bufFull =>
      cases hr
      exact ⟨rfl, rfl, rfl, rfl, fun _ => ⟨rfl, rfl⟩, nofun, fun h => absurd rfl h⟩
    | wrongLength =>
      cases hr
      exact ⟨rfl, rfl, rfl, rfl, nofun, fun _ => ⟨rfl, rfl⟩, fun _ h => absurd rfl h⟩
    | timestamp st =>
      cases hr
      exact ⟨rfl, rfl, rfl, by cases st <;> rfl, nofun, fun _ => ⟨rfl, rfl⟩, fun _ _ h => absurd rfl h⟩
  · exact ⟨fun _ => hkept, fun herror => Bool.noConfusion (herror.symm.trans hok)⟩

/-! ## EVT and the path codes -/

/-- R252: EVT and the code EVENT stand together. -/
theorem Raised.no_event (h : Raised s t) (hr : t.resp = some r) : r.evt = false ∧ r.result ≠ 0x01#8 := by
  obtain ⟨c, info, hresp, hcode⟩ := h.response
  cases hresp.symm.trans hr
  exact ⟨rfl, byte_ne_event hcode⟩

theorem Ending.no_event_or_event {i : Instr} (h : Ending s i t) (hr : t.resp = some r) :
    (r.evt = false ∧ r.result ≠ 0x01#8) ∨ (∃ st, i = .proc st) ∧ r = ⟨0x01#8, 4#64, true⟩ := by
  cases h with
  | raised hraised => exact .inl (hraised.no_event hr)
  | answered | path =>
    cases hr
    exact .inl ⟨rfl, nofun⟩
  | event st =>
    cases hr
    exact .inr ⟨⟨st, rfl⟩, rfl⟩

/-- R161: a PROC that raises no error returns the path code it records. -/
theorem Ending.path_code {st : Stamp} (h : Ending s (.proc st) t) (hr : t.resp = some r)
    (hok : isErrorCode r.result = false) :
    r.rdata = t.lastPath.setWidth 64 ∧
      (r.result = 0x00#8 → t.lastPath = 1#8 ∨ t.lastPath = 2#8 ∨ t.lastPath = 3#8) := by
  cases h with
  | raised hraised => exact Bool.noConfusion ((hraised.error_code hr).symm.trans hok)
  | answered _ _ hi => exact absurd rfl (hi st)
  | path _ _ _ hp =>
    cases hr
    exact ⟨rfl, fun _ => hp⟩
  | event =>
    cases hr
    exact ⟨rfl, nofun⟩

/-- Settles O43: only a PROC ends with the event, and each path of a PROC returns its own code. -/
theorem evtStrobeAndPathCodes : Obligations.EvtStrobeAndPathCodes := by
  refine ⟨fun w d s t r h hr => ?_, fun st s t r h hr hok => (exec_ending h).path_code hr hok⟩
  have hcases : (r.evt = false ∧ r.result ≠ 0x01#8) ∨
      (∃ st, decode w d = .ok (.proc st)) ∧ r = ⟨0x01#8, 4#64, true⟩ := by
    rcases issue_raised_or_ending h with hraised | ⟨i, hdec, hend⟩
    · exact .inl (hraised.no_event hr)
    · refine (hend.no_event_or_event hr).imp_right (And.imp_left ?_)
      rintro ⟨st, rfl⟩
      exact ⟨st, hdec⟩
  rcases hcases with ⟨hevt, hne⟩ | ⟨hproc, rfl⟩
  · exact ⟨by simp [hevt, hne], fun hevent => absurd hevent hne⟩
  · exact ⟨iff_of_true rfl rfl, fun _ => ⟨hproc, rfl⟩⟩

end Sys2Proof.Machine
end

section
/-! PROOFS. Reset (spec 70): the reset input from any state (R270), and SRST with INIT against reset with INIT (R271).
INIT writes every register but the configuration and LAST_ERR, so two states it starts from differ after it in those
alone; SRST keeps the configuration, and nine CFGW commands restore it after reset. -/

namespace Sys2Proof.Machine

variable {s t : State}

/-! ## The reset input -/

theorem step_of_rst {rest : List HostAct} (h : s.host = .rst :: rest) :
    step s = .next { s with host := rest }.hardReset := by
  simp only [step, act, h]

/-- Settles O1: the step is the reset input, which takes no register from the state it ends. -/
theorem resetInputLoadsResetValues : Obligations.ResetInputLoadsResetValues := by
  intro s rest hhost
  refine ⟨_, step_of_rst hhost, ?_⟩
  and_intros <;> rfl

/-! ## Writing a whole configuration -/

theorem runCommands_append_of_next {cmds : List Instr} (rest : List Instr) (h : runCommands cmds s = .next t) :
    runCommands (cmds ++ rest) s = runCommands rest t := by
  induction cmds generalizing s with
  | nil =>
    cases h
    rfl
  | cons i cmds ih =>
    obtain ⟨u, hu, hcmds⟩ := runCommands_cons_eq_next h
    exact (runCommands_cons_of_next _ hu).trans (ih hcmds)

/-- A CFGW that follows another overwrites its response, so of the commands before it only the configuration shows. -/
theorem runCommands_cfgw_cons {sel : BitVec 8} {r : CfgReg} {c : CfgRegs} {v : Word} {rest : List Instr}
    (hreg : CfgReg.ofSel sel = some r) (hconf : s.configured = false) :
    runCommands (.cfgw sel v :: rest) ({ s with cfg := c }.answered 0#64) =
      runCommands rest ({ s with cfg := c.write r v }.answered 0#64) :=
  runCommands_cons_of_next rest (exec_cfgw_of_unconfigured v hreg hconf)

/-- R20: the nine registers are the whole configuration, so nothing of the old one is left. -/
theorem runCommands_configureCommands (c : CfgRegs) (hconf : s.configured = false) :
    runCommands (configureCommands c) s = .next ({ s with cfg := c }.answered 0#64) := by
  rw [configureCommands, runCommands_cons_of_next _ (exec_cfgw_of_unconfigured _ rfl hconf)]
  iterate 8 rw [runCommands_cfgw_cons (s := s) rfl hconf]
  simp only [runCommands, CfgRegs.write]

/-! ## After INIT -/

theorem runCommands_init (hconf : s.configured = false) (hcheck : s.cfg.check = 0#64) :
    runCommands [.init] s = .next (s.initInstance.answered 0#64) :=
  runCommands_cons_of_next [] (exec_init_of_legal hconf hcheck)

/-- What SRST clears, InitInstance clears again: the two commands leave what it makes of the state before them. -/
theorem runCommands_srst_init (hcheck : s.cfg.check = 0#64) :
    runCommands [.srst, .init] s = .next (s.initInstance.answered 0#64) :=
  (runCommands_cons_of_next [.init] (srstEndsInstance s)).trans (runCommands_init rfl hcheck)

theorem runCommands_configure_init {c : CfgRegs} (hconf : s.configured = false) (hcheck : c.check = 0#64) :
    runCommands (configureCommands c ++ [.init]) s = .next ({ s with cfg := c }.initInstance.answered 0#64) :=
  (runCommands_append_of_next [.init] (runCommands_configureCommands c hconf)).trans (runCommands_init hconf hcheck)

/-- R107: of the registers, InitInstance keeps the configuration and LAST_ERR alone. -/
theorem registers_initInstance_of_cfg_eq (h : s.cfg = t.cfg) :
    s.initInstance.registers = { t.initInstance.registers with lastErr := s.lastErr } := by
  simp only [State.registers, State.initInstance, State.clearInstance, h]

/-- Settles O14: both runs end in InitInstance, on states with the same configuration. -/
theorem srstThenInitIsFreshInstance : Obligations.SrstThenInitIsFreshInstance := by
  intro s hcheck
  refine ⟨_, _, runCommands_srst_init hcheck, runCommands_configure_init rfl hcheck, ?_, rfl, mode_of_learn rfl rfl⟩
  exact registers_initInstance_of_cfg_eq (s := s) (t := { State.reset with cfg := s.cfg }) rfl

end Sys2Proof.Machine
end
